-- ==== Sys2Proof/Word.lean ====
section
/-! DEFINITION. The widths of CORE (R7, R8 of 00_scope.md) as bit-vector types. Bit `B⟨i⟩` of an `n`-bit block is
vector bit `n - i` (R12), so the most significant bit of the vector is `B⟨1⟩`. -/

namespace Sys2Proof

/-- A data block, a ciphertext or a master key: 64 bits (R7). -/
abbrev Block := BitVec 64

/-- A round key or an expanded half-block: 48 bits (R7). -/
abbrev RoundKey := BitVec 48

/-- A half-block: 32 bits (R7). -/
abbrev Half := BitVec 32

/-- A key-schedule half: 28 bits (R7). -/
abbrev KeyHalf := BitVec 28

/-- The concatenated key-schedule halves, the key after parity drop: 56 bits (R7). -/
abbrev KeyPair := BitVec 56

/-- An S-box input group: 6 bits (R7). -/
abbrev Group := BitVec 6

/-- An S-box output: 4 bits (R7). -/
abbrev Nibble := BitVec 4

/-- The command word, `CMD_W` = 16 bits (R8). -/
abbrev CmdWord := BitVec 16

/-- The length field, `LEN_W` = 7 bits (R8). -/
abbrev Len := BitVec 7

/-- The error code, `ERR_W` = 3 bits (R8). -/
abbrev ErrCode := BitVec 3

/-- The status word, `STATUS_W` = 8 bits (R8). -/
abbrev StatusWord := BitVec 8

end Sys2Proof
end

