-- ==== Sys2Proof/Config.lean ====
section
/-! DEFINITION. The configuration of CORE in the sense of R10 of 00_scope.md: the constant tables, as a record, and the one
free value of the model. Which record CORE takes is said in Machine/Tables.lean. -/

namespace Sys2Proof.Config

/-- The eight tables of the permutation unit, in the order of `TSEL` (R80 of 30_encoding.md). -/
inductive Tsel where
  | ipL | ipR | fp | pc1C | pc1D | pc2 | e | p
  deriving DecidableEq, Repr

/-- The input length of a table (R80). -/
def Tsel.nIn : Tsel → Nat
  | .ipL | .ipR | .fp | .pc1C | .pc1D => 64
  | .pc2 => 56
  | .e | .p => 32

/-- The output length of a table (R80). -/
def Tsel.nOut : Tsel → Nat
  | .ipL | .ipR => 32
  | .fp => 64
  | .pc1C | .pc1D => 28
  | .pc2 | .e => 48
  | .p => 32

/-- All eight selects, in order. -/
def Tsel.all : List Tsel := [.ipL, .ipR, .fp, .pc1C, .pc1D, .pc2, .e, .p]

/-- The direction of the Feistel core, `FC_DIR` (R32 of 10_state.md): 0 is decrypt, 1 is encrypt. -/
inductive Dir where
  | decrypt | encrypt
  deriving DecidableEq, Repr

/-- The constant tables (R10). A permutation table lists 1-based source positions (R14); an S-box lists its rows. -/
structure Tables where
  ipL : List Nat
  ipR : List Nat
  fp : List Nat
  pc1C : List Nat
  pc1D : List Nat
  pc2 : List Nat
  e : List Nat
  p : List Nat
  sboxes : List (List (List Nat))
  shifts : List Nat
  deriving DecidableEq, Repr

/-- The table that a select names (R80). -/
def Tables.table (T : Tables) : Tsel → List Nat
  | .ipL => T.ipL
  | .ipR => T.ipR
  | .fp => T.fp
  | .pc1C => T.pc1C
  | .pc1D => T.pc1D
  | .pc2 => T.pc2
  | .e => T.e
  | .p => T.p

/-- The contents of `RK[i]` while no key has been loaded since reset: a FREE VALUE, about which nothing can be proved. DESIGN
CHOICE (log entry 7): the spec gives the register no value there (10_state.md R23, R35, U1 of 93_implementation_defined.md). -/
opaque rkAtReset : Nat → RoundKey

end Sys2Proof.Config
end

