-- ==== Sys2Proof/Syntax.lean ====
section
/-! DEFINITION. The rows of spec/opcode_table.json, one constructor each: five of the host's command words (CMD16), eight
selects of the permutation unit (PSEL3), eight boxes of the S-box ROM (SADDR9) and the twelve unit operations without a
select (INTERNAL). An operand the row's rule names is an argument; a register the rule reads is not. Beside it, what is
presented to CORE to have a row run (`Transfer`). -/

namespace Sys2Proof

open Config (Tsel Dir)

/-- One constructor per row of the opcode table. -/
inductive Instr where
  -- CMD16: the host's commands (30_encoding.md R71 to R75)
  /-- DECRYPT (R193): `LEN` and the ciphertext block. -/
  | decrypt (len : Len) (x : Block)
  /-- ENCRYPT (R192): `LEN` and the plaintext block. -/
  | encrypt (len : Len) (x : Block)
  /-- SETKEY (R191): `LEN` and the master key. -/
  | setkey (len : Len) (x : Block)
  /-- ILLEGAL.OP3 (R194): `OP = 11` with `RSVD = 0`; `LEN` and the operand are ignored. -/
  | illegalOp3 (len : Len) (x : Block)
  /-- ILLEGAL.RSVD (R194): `RSVD` nonzero; everything else is ignored. -/
  | illegalRsvd (rsvd : BitVec 7) (len : Len) (op : BitVec 2) (x : Block)
  -- PSEL3: the permutation unit (40_permutation.md)
  /-- PERM.IP_L (R102). -/
  | permIpL (x : Block)
  /-- PERM.IP_R (R103). -/
  | permIpR (x : Block)
  /-- PERM.FP (R104). -/
  | permFp (x : Block)
  /-- PERM.PC1_C (R105). -/
  | permPc1C (x : Block)
  /-- PERM.PC1_D (R106). -/
  | permPc1D (x : Block)
  /-- PERM.PC2 (R107). -/
  | permPc2 (x : KeyPair)
  /-- PERM.E (R108). -/
  | permE (x : Half)
  /-- PERM.P (R109). -/
  | permP (x : Half)
  -- SADDR9: the S-box array (41_sbox.md)
  /-- SBOX.S1 (R122), box 0, with its 6-bit group. -/
  | sboxS1 (g : Group)
  /-- SBOX.S2 (R123), box 1. -/
  | sboxS2 (g : Group)
  /-- SBOX.S3 (R124), box 2. -/
  | sboxS3 (g : Group)
  /-- SBOX.S4 (R125), box 3. -/
  | sboxS4 (g : Group)
  /-- SBOX.S5 (R126), box 4. -/
  | sboxS5 (g : Group)
  /-- SBOX.S6 (R127), box 5. -/
  | sboxS6 (g : Group)
  /-- SBOX.S7 (R128), box 6. -/
  | sboxS7 (g : Group)
  /-- SBOX.S8 (R129), box 7. -/
  | sboxS8 (g : Group)
  -- INTERNAL: unit operations without a select
  /-- PERMUTE (R100): the generic permutation; the input block is the low `n_in` bits of `x`. -/
  | permute (t : Tsel) (x : Block)
  /-- SBOX (R120): the generic lookup, box index 0..7. -/
  | sbox (g : Group) (b : BitVec 3)
  /-- SUBST32 (R130): the eight lookups of one round. -/
  | subst32 (x : RoundKey)
  /-- ROUNDF (R140). -/
  | roundf (r : Half) (k : RoundKey)
  /-- KEYSCHED (R150) of a master key. -/
  | keysched (x : Block)
  /-- KS.SPLIT (R151) of a master key. -/
  | ksSplit (x : Block)
  /-- ROT28 (R153): both halves left by `SHIFTS[i]`. -/
  | rot28 (i : Fin 16)
  /-- KS.ROUND(i) (R154). -/
  | ksRound (i : Fin 16)
  /-- KS.COMPRESS (R155). -/
  | ksCompress
  /-- FEISTEL (R170). -/
  | feistel (x : Block) (dir : Dir)
  /-- FEISTEL.ROUND(n) (R171), `n = j + 1`: the step after `j` steps are done. -/
  | feistelRound (j : Fin 16)
  /-- RKSEL (R172): `RK[sel(n, dir)]`, `n = j + 1`. -/
  | rksel (j : Fin 16) (dir : Dir)
  deriving DecidableEq, Repr

/-- The twelve INTERNAL rows: they have no encoding, so what selects one is its name. -/
inductive FixedOp where
  | permute (t : Tsel) (x : Block)
  | sbox (g : Group) (b : BitVec 3)
  | subst32 (x : RoundKey)
  | roundf (r : Half) (k : RoundKey)
  | keysched (x : Block)
  | ksSplit (x : Block)
  | rot28 (i : Fin 16)
  | ksRound (i : Fin 16)
  | ksCompress
  | feistel (x : Block) (dir : Dir)
  | feistelRound (j : Fin 16)
  | rksel (j : Fin 16) (dir : Dir)
  deriving DecidableEq, Repr

/-- What is presented to CORE to have one row run: a command on the host's port (R70: command word and operand,
transferred together), a select of the permutation unit with the block on its input (R80), an address of the S-box ROM
(R81), or a unit operation that has no select (R79). -/
inductive Transfer where
  | command (word : CmdWord) (data : Block)
  | psel (tsel : BitVec 3) (x : Block)
  | saddr (addr : BitVec 9)
  | fixed (op : FixedOp)
  deriving DecidableEq, Repr

end Sys2Proof
end

