-- ==== Sys2Proof/WellFormed.lean ====
section
/-! DEFINITION. Which instructions and which transfers the encoding tables can spell, and which are the host's commands. -/

namespace Sys2Proof

open Config (Tsel)

/-- A 64-bit word whose set bits all lie in its low `n` bits: what an `n`-bit input of a unit can carry. -/
abbrev fitsIn (n : Nat) (x : Block) : Prop := x.toNat < 2 ^ n

/-- ILLEGAL.RSVD stands for words whose `RSVD` is nonzero (R74, R194); the generic PERMUTE takes a block of its table's
input length (R100). Every other argument is within its field by its type. -/
abbrev Instr.WellFormed : Instr → Prop
  | .illegalRsvd rsvd _ _ _ => rsvd ≠ 0
  | .permute t x => fitsIn t.nIn x
  | _ => True

/-- The input length of the table that a 3-bit select names (R80). -/
def pselWidth (tsel : BitVec 3) : Nat := if tsel = 5 then 56 else if tsel = 6 ∨ tsel = 7 then 32 else 64

/-- A select of the permutation unit carries a block of the selected table's input length (R80). -/
abbrev Transfer.WellFormed : Transfer → Prop
  | .psel tsel x => fitsIn (pselWidth tsel) x
  | .fixed (.permute t x) => fitsIn t.nIn x
  | _ => True

/-- A row of the host's command space CMD16. -/
def Instr.isCommand : Instr → Bool
  | .decrypt _ _ | .encrypt _ _ | .setkey _ _ | .illegalOp3 _ _ | .illegalRsvd _ _ _ _ => true
  | .permIpL _ | .permIpR _ | .permFp _ | .permPc1C _ | .permPc1D _ | .permPc2 _ | .permE _ | .permP _ => false
  | .sboxS1 _ | .sboxS2 _ | .sboxS3 _ | .sboxS4 _ | .sboxS5 _ | .sboxS6 _ | .sboxS7 _ | .sboxS8 _ => false
  | .permute _ _ | .sbox _ _ | .subst32 _ | .roundf _ _ | .keysched _ | .ksSplit _ | .rot28 _ | .ksRound _ => false
  | .ksCompress | .feistel _ _ | .feistelRound _ | .rksel _ _ => false

end Sys2Proof
end

