-- ==== Sys2Proof/Decode.lean ====
section
/-! DEFINITION. The decoder of 30_encoding.md R75, R80 and R81, total on every word of its three spaces, and after it the
encoder. CORE rejects an illegal command word by decoding it to a row of its own (R83, R194), so nothing is left over. -/

namespace Sys2Proof

open Config (Tsel)

/-- The table select's code (R80). -/
def tselCode : Tsel → BitVec 3
  | .ipL => 0
  | .ipR => 1
  | .fp => 2
  | .pc1C => 3
  | .pc1D => 4
  | .pc2 => 5
  | .e => 6
  | .p => 7

/-- The table that a select code names (R80: all eight values are used). -/
def tselOf (c : BitVec 3) : Tsel :=
  if c = 0 then .ipL else if c = 1 then .ipR else if c = 2 then .fp else if c = 3 then .pc1C
  else if c = 4 then .pc1D else if c = 5 then .pc2 else if c = 6 then .e else .p

/-- `OP`, bits 1:0 of the command word (R71). -/
def cmdOp (w : CmdWord) : BitVec 2 := w.extractLsb' 0 2

/-- `LEN`, bits 8:2 of the command word (R71, R73). -/
def cmdLen (w : CmdWord) : Len := w.extractLsb' 2 7

/-- `RSVD`, bits 15:9 of the command word (R71, R74). -/
def cmdRsvd (w : CmdWord) : BitVec 7 := w.extractLsb' 9 7

/-- The command word of its three fields, format CMD (R71). -/
def cmdWord (rsvd : BitVec 7) (len : Len) (op : BitVec 2) : CmdWord := rsvd ++ len ++ op

/-- Decode of a command word with its operand (R75): `RSVD` first, then `OP`. -/
def decodeCommand (w : CmdWord) (x : Block) : Instr :=
  if cmdRsvd w ≠ 0 then .illegalRsvd (cmdRsvd w) (cmdLen w) (cmdOp w) x
  else if cmdOp w = 0 then .decrypt (cmdLen w) x
  else if cmdOp w = 1 then .encrypt (cmdLen w) x
  else if cmdOp w = 2 then .setkey (cmdLen w) x
  else .illegalOp3 (cmdLen w) x

/-- Decode of a table select with the block on the unit's input, of which the unit has the low `n_in` wires (R80). -/
def decodePsel (c : BitVec 3) (x : Block) : Instr :=
  match tselOf c with
  | .ipL => .permIpL x
  | .ipR => .permIpR x
  | .fp => .permFp x
  | .pc1C => .permPc1C x
  | .pc1D => .permPc1D x
  | .pc2 => .permPc2 (x.setWidth 56)
  | .e => .permE (x.setWidth 32)
  | .p => .permP (x.setWidth 32)

/-- The group whose row and column an S-box ROM address holds: `g⟨1⟩` and `g⟨6⟩` are the row, `g⟨2..5⟩` the column (R81). -/
def saddrGroup (a : BitVec 9) : Group := a.extractLsb' 5 1 ++ a.extractLsb' 0 4 ++ a.extractLsb' 4 1

/-- The box of an S-box ROM address (R81). -/
def saddrBox (a : BitVec 9) : BitVec 3 := a.extractLsb' 6 3

/-- The S-box ROM address of a group in a box: a rewiring of the group's bits (R121). -/
def saddrOf (b : BitVec 3) (g : Group) : BitVec 9 :=
  b ++ g.extractLsb' 5 1 ++ g.extractLsb' 0 1 ++ g.extractLsb' 1 4

/-- Decode of an S-box ROM address (R81: all 512 addresses are used). -/
def decodeSaddr (a : BitVec 9) : Instr :=
  if saddrBox a = 0 then .sboxS1 (saddrGroup a)
  else if saddrBox a = 1 then .sboxS2 (saddrGroup a)
  else if saddrBox a = 2 then .sboxS3 (saddrGroup a)
  else if saddrBox a = 3 then .sboxS4 (saddrGroup a)
  else if saddrBox a = 4 then .sboxS5 (saddrGroup a)
  else if saddrBox a = 5 then .sboxS6 (saddrGroup a)
  else if saddrBox a = 6 then .sboxS7 (saddrGroup a)
  else .sboxS8 (saddrGroup a)

/-- The row that a unit operation without a select stands for. -/
def fixedInstr : FixedOp → Instr
  | .permute t x => .permute t x
  | .sbox g b => .sbox g b
  | .subst32 x => .subst32 x
  | .roundf r k => .roundf r k
  | .keysched x => .keysched x
  | .ksSplit x => .ksSplit x
  | .rot28 i => .rot28 i
  | .ksRound i => .ksRound i
  | .ksCompress => .ksCompress
  | .feistel x dir => .feistel x dir
  | .feistelRound j => .feistelRound j
  | .rksel j dir => .rksel j dir

/-- The instruction that a transfer spells; total. -/
def decode : Transfer → Instr
  | .command w x => decodeCommand w x
  | .psel c x => decodePsel c x
  | .saddr a => decodeSaddr a
  | .fixed op => fixedInstr op

/-- The transfer that spells an instruction: format CMD (R71), PSEL (R80), SADDR (R81) or the operation's name. -/
def encode : Instr → Transfer
  | .decrypt len x => .command (cmdWord 0 len 0) x
  | .encrypt len x => .command (cmdWord 0 len 1) x
  | .setkey len x => .command (cmdWord 0 len 2) x
  | .illegalOp3 len x => .command (cmdWord 0 len 3) x
  | .illegalRsvd rsvd len op x => .command (cmdWord rsvd len op) x
  | .permIpL x => .psel (tselCode .ipL) x
  | .permIpR x => .psel (tselCode .ipR) x
  | .permFp x => .psel (tselCode .fp) x
  | .permPc1C x => .psel (tselCode .pc1C) x
  | .permPc1D x => .psel (tselCode .pc1D) x
  | .permPc2 x => .psel (tselCode .pc2) (x.setWidth 64)
  | .permE x => .psel (tselCode .e) (x.setWidth 64)
  | .permP x => .psel (tselCode .p) (x.setWidth 64)
  | .sboxS1 g => .saddr (saddrOf 0 g)
  | .sboxS2 g => .saddr (saddrOf 1 g)
  | .sboxS3 g => .saddr (saddrOf 2 g)
  | .sboxS4 g => .saddr (saddrOf 3 g)
  | .sboxS5 g => .saddr (saddrOf 4 g)
  | .sboxS6 g => .saddr (saddrOf 5 g)
  | .sboxS7 g => .saddr (saddrOf 6 g)
  | .sboxS8 g => .saddr (saddrOf 7 g)
  | .permute t x => .fixed (.permute t x)
  | .sbox g b => .fixed (.sbox g b)
  | .subst32 x => .fixed (.subst32 x)
  | .roundf r k => .fixed (.roundf r k)
  | .keysched x => .fixed (.keysched x)
  | .ksSplit x => .fixed (.ksSplit x)
  | .rot28 i => .fixed (.rot28 i)
  | .ksRound i => .fixed (.ksRound i)
  | .ksCompress => .fixed .ksCompress
  | .feistel x dir => .fixed (.feistel x dir)
  | .feistelRound j => .fixed (.feistelRound j)
  | .rksel j dir => .fixed (.rksel j dir)

/-- The transfer of a table word whose bits are `w`. A PSEL3 word has 3 bits (8 as whole bytes), a SADDR9 word 9, a command
word 16 with its operand above it; operand bits beyond the table's are 0. DESIGN CHOICE (log entry 15): 16 bits are read as
a command word, the one 16-bit format the port has, and never as an S-box ROM address padded to whole bytes. -/
def tableTransfer (nbits w : Nat) : Option Transfer :=
  if nbits = 3 ∨ nbits = 8 then
    if w < 8 then some (.psel (BitVec.ofNat 3 w) 0) else none
  else if nbits = 9 then some (.saddr (BitVec.ofNat 9 w))
  else if 16 ≤ nbits ∧ nbits ≤ 80 then some (.command (BitVec.ofNat 16 w) (BitVec.ofNat 64 (w / 2 ^ 16)))
  else none

/-- The instruction the decoder reads from a table word. -/
def decodeTableWord (nbits w : Nat) : Option Instr := (tableTransfer nbits w).map decode

end Sys2Proof
end

