-- ==== Sys2Proof/Machine/State.lean ====
section
/-! DEFINITION. CORE's state (10_state.md R20), the reasons a step can stop, and the state after reset (R35). -/

namespace Sys2Proof.Machine

open Config (Dir)

/-- What a unit last presented on its output: the result by its width, or the round keys of a whole schedule. The MODEL's own
(log entry 4): the spec's units have no register for it and hand their result to the unit that asked. -/
inductive UnitOut where
  | none
  | w4 (v : Nibble)
  | w28 (v : KeyHalf)
  | w32 (v : Half)
  | w48 (v : RoundKey)
  | w64 (v : Block)
  | keys (v : Vector RoundKey 16)
  deriving DecidableEq, Repr

/-- What the outside does next: hold `rst` for a while (R230 of 70_reset_and_hazards.md), or present something to be run. -/
inductive Event where
  | reset
  | present (t : Transfer)
  deriving DecidableEq, Repr

/-- The state of CORE (R20). `drive` and `out` are the MODEL's own fields (log entries 2 and 4), `rspValid` is the port of
that name (R70 of 30_encoding.md); every other field is a register of R20 under its own name. PLUT and SROM are constants
(R54 of 20_memory.md) and stand in Machine/Tables.lean. -/
structure State where
  /-- `RK[0..15]` (R22). While `KEY_VALID` is 0 its contents are the free value of reset (R23, log entry 7). -/
  rk : Vector RoundKey 16
  /-- `KEY_VALID` (R25). -/
  keyValid : Bool
  /-- `BUSY` (R26). -/
  busy : Bool
  /-- `CFG_FAULT` (R27). -/
  cfgFault : Bool
  /-- `RSP_ERR` (R29). -/
  rspErr : ErrCode
  /-- `RSP_DATA` (R29). -/
  rspData : Block
  /-- `C` (R30). -/
  c : KeyHalf
  /-- `D` (R30). -/
  d : KeyHalf
  /-- `KS_N`, rounds of the schedule done (R30, R33). -/
  ksN : BitVec 5
  /-- `RK_SH[0..15]`, the shadow file (R30). -/
  rkSh : Vector RoundKey 16
  /-- `L` (R32). -/
  l : Half
  /-- `R` (R32). -/
  r : Half
  /-- `FC_N`, round steps done (R32, R33). -/
  fcN : BitVec 5
  /-- `FC_DIR` (R32). -/
  fcDir : Dir
  /-- `CMD_LATCH` (R190 of 45_commands.md). Between commands it keeps the last accepted word (DESIGN CHOICE, log entry 21). -/
  cmdLatch : CmdWord
  /-- `DATA_LATCH` (R190). Between commands it keeps the last accepted operand (DESIGN CHOICE, log entry 21). -/
  dataLatch : Block
  /-- The port `rsp_valid` after this step (R70, R190). -/
  rspValid : Bool
  /-- What a unit last presented: the model's own. -/
  out : UnitOut
  /-- What the outside presents from here on, oldest first: the model's own. -/
  drive : List Event
  deriving DecidableEq, Repr

/-- Why the machine stops: it has no reason to. Every error of the spec is a response (60_exceptions.md R217), every unit is
total, and CORE never hangs (70_reset_and_hazards.md R239), so no constructor stands here. -/
inductive Fault where
  deriving DecidableEq, Repr

/-- Why the machine gives an instruction no meaning. -/
inductive Refusal where
  /-- Raised by an arm of exec whose instruction has no meaning yet; no arm does. Safe: it stops. -/
  | notModelled (mnemonic : String)
  deriving DecidableEq, Repr

/-- The state after reset (R35): no key, idle, no response, `CFG_FAULT` from the table check (R231). DESIGN CHOICE (log
entries 5 and 7): of the registers to which R35 gives no value, the transients hold zero and `RK` a free value. -/
def State.reset : State where
  rk := Vector.ofFn fun i => Config.rkAtReset i
  keyValid := false
  busy := false
  cfgFault := !checkTables tables
  rspErr := 0
  rspData := 0
  c := 0
  d := 0
  ksN := 0
  rkSh := Vector.replicate 16 0
  l := 0
  r := 0
  fcN := 0
  fcDir := .decrypt
  cmdLatch := 0
  dataLatch := 0
  rspValid := false
  out := .none
  drive := []

end Sys2Proof.Machine
end

