-- ==== Sys2Proof/Machine/Operands.lean ====
section
/-! DEFINITION. Operand forms: the bits and slices of a block (00_scope.md R11 to R13), the addresses of the three internal
spaces (20_memory.md R51), and the two forms in which a host outside CORE prepares an operand (R56, R73 of 30_encoding.md). -/

namespace Sys2Proof.Machine

open Config (Tsel Dir)

/-- `B⟨i⟩`, 1-based from the most significant bit (R11, R12); meant for `1 ≤ i ≤ n`. -/
def blockBit {n : Nat} (x : BitVec n) (i : Nat) : Bool := x.getMsbD (i - 1)

/-- `B⟨i..j⟩` (R11). -/
def blockSlice {n : Nat} (x : BitVec n) (i j : Nat) : BitVec (j - i + 1) := x.extractLsb' (n - j) (j - i + 1)

/-- The block whose bits, first bit first, are the list's. -/
def blockOfBits (m : Nat) (bits : List Bool) : BitVec m := (BitVec.ofBoolListBE bits).setWidth m

/-- `h` rotated left by `s` positions, toward bit 1; the amount is taken modulo 28 (R13, R153). -/
def rotl28 (h : KeyHalf) (s : Nat) : KeyHalf := h.rotateLeft s

/-- The PLUT address `{TSEL, POS}` (R51, R80). -/
def plutAddr (t : Tsel) (pos : Nat) : BitVec 9 := tselCode t ++ BitVec.ofNat 6 pos

/-- The row of a group: `g⟨1⟩` and `g⟨6⟩` (R81, R120). -/
def groupRow (g : Group) : BitVec 2 := blockSlice g 1 1 ++ blockSlice g 6 6

/-- The column of a group: `g⟨2..5⟩` (R81, R120). -/
def groupCol (g : Group) : BitVec 4 := blockSlice g 2 5

/-- The SROM address `{BOX, ROW, COL}` of a group in a box (R51, R81). -/
def sromAddr (b : BitVec 3) (g : Group) : BitVec 9 := b ++ groupRow g ++ groupCol g

/-- The round-key index `sel(n, dir)` at step `n = j + 1`: ascending to encrypt, descending to decrypt (R82, R172). -/
def rkIndex (j : Fin 16) : Dir → Fin 16
  | .encrypt => j
  | .decrypt => j.rev

/-- `FC_DIR` as the bit it is (R32, D23 of 92_eei_decisions.md). -/
def dirBit : Dir → BitVec 1
  | .decrypt => 0
  | .encrypt => 1

/-- The `LEN` a host presents for an operand of `n` bits: saturated at 127 (R73, D21). -/
def hostLen (n : Nat) : Len := BitVec.ofNat 7 (min n 127)

/-- Byte `j` (0 first) of a block that a host adaptor moves as eight bytes: `B⟨8j+1..8j+8⟩` (R56). -/
def blockByte (x : Block) (j : Nat) : BitVec 8 := x.extractLsb' (56 - 8 * j) 8

/-- The eight bytes of a block, first moved first (R56). -/
def blockBytes (x : Block) : List (BitVec 8) := (List.range 8).map (blockByte x)

/-- The block that eight bytes carry, first moved first (R56). -/
def blockOfBytes (bytes : List (BitVec 8)) : Block := bytes.foldl (fun acc b => acc <<< 8 ||| b.setWidth 64) 0

end Sys2Proof.Machine
end

