-- ==== Sys2Proof/Machine/Flags.lean ====
section
/-! DEFINITION. The flags of CORE (10_state.md R25 to R28) as the host sees them, and the error a command ends with: its
codes and their priority (60_exceptions.md R210, R215). -/

namespace Sys2Proof.Machine

/-- The errors of R210, and no error. -/
inductive Err where
  | ok | invalidLength | keyNotSet | invalidTableIndex | illegalCommand
  deriving DecidableEq, Repr

/-- The error codes (R210). -/
def errCode : Err → ErrCode
  | .ok => 0
  | .invalidLength => 1
  | .keyNotSet => 2
  | .invalidTableIndex => 3
  | .illegalCommand => 4

/-- The STATUS word: bit 0 `KEY_VALID`, bit 1 `BUSY`, bit 2 `CFG_FAULT`, bits 7:3 zero (R77 of 30_encoding.md). -/
def statusWord (s : State) : StatusWord :=
  (0 : BitVec 5) ++ BitVec.ofBool s.cfgFault ++ BitVec.ofBool s.busy ++ BitVec.ofBool s.keyValid

/-- The port `cmd_ready`: not busy and no reset (R70). -/
def cmdReady (rst : Bool) (s : State) : Bool := !s.busy && !rst

/-- The one error that a command reports when several apply (R215): configuration, encoding, operand, state. -/
def firstError (s : State) (illegal : Bool) (len : Len) (needsKey : Bool) : Option Err :=
  if s.cfgFault then some .invalidTableIndex
  else if illegal then some .illegalCommand
  else if len ≠ 64 then some .invalidLength
  else if needsKey && !s.keyValid then some .keyNotSet
  else none

end Sys2Proof.Machine
end

