-- ==== Sys2Proof/Machine/Ops.lean ====
section
/-! DEFINITION. The named operations over CORE's registers and its three internal spaces: reading PLUT, SROM and RK;
accepting a command; the response; taking an error (60_exceptions.md R217), which is all the exception entry CORE has, and
from which there is no return to write (R218); the commit of a schedule; reset. -/

namespace Sys2Proof.Machine

/-- A word of PLUT: the source position of output bit `POS + 1`, and 0 past the table's end (R52 of 20_memory.md). -/
def plut (a : BitVec 9) : BitVec 7 :=
  let t := tselOf (a.extractLsb' 6 3)
  BitVec.ofNat 7 ((tables.table t).getD (a.extractLsb' 0 6).toNat 0)

/-- A word of SROM: the box's entry at the address's row and column (R53). -/
def srom (a : BitVec 9) : Nibble :=
  BitVec.ofNat 4 (((tables.sboxes.getD (a.extractLsb' 6 3).toNat []).getD (a.extractLsb' 4 2).toNat []).getD
    (a.extractLsb' 0 4).toNat 0)

/-- A read of `RK[i]` (R22). -/
def State.readRk (s : State) (i : Fin 16) : RoundKey := s.rk[i]

/-- The response: both response registers together, `rsp_valid`, and `BUSY` cleared (R29, R190). DESIGN CHOICE (log entry 21):
the latches, which have no value outside a command (U2 of 93_implementation_defined.md), keep what acceptance put there. -/
def State.respond (s : State) (err : Err) (data : Block) : State :=
  { s with rspErr := errCode err, rspData := data, rspValid := true, busy := false }

/-- Taking an error (R217): the code and `0^64` as the response, and nothing else changes. -/
def State.raise (s : State) (err : Err) : State := s.respond err 0

/-- Acceptance of a command (R190): the word and the operand are captured whole and `BUSY` is set. -/
def State.accept (s : State) (w : CmdWord) (x : Block) : State :=
  { s with cmdLatch := w, dataLatch := x, busy := true, rspValid := false }

/-- A unit presents its result. -/
def State.present (s : State) (v : UnitOut) : State := { s with out := v }

/-- The commit of a new schedule from the shadow file: all sixteen round keys and `KEY_VALID` in one update (R24, R158). -/
def State.commitKeys (s : State) : State := { s with rk := s.rkSh, keyValid := true }

/-- A cycle in which nothing completes: only `rsp_valid`, which lasts one cycle, goes back (R70). -/
def State.quiet (s : State) : State := { s with rspValid := false }

/-- Reset (R230): every register of CORE at its reset value; what the outside does next is not CORE's. -/
def State.afterReset (s : State) : State := { State.reset with drive := s.drive }

end Sys2Proof.Machine
end

