-- ==== Sys2Proof/Machine/Permutation.lean ====
section
/-! DEFINITION. The permutation unit (40_permutation.md): one operation over PLUT (R100), a name for each table's use (R101),
and the meanings of the rows PERM.* and PERMUTE. The unit writes no state of the spec; its result is shown in `out`. -/

namespace Sys2Proof.Machine

open Config (Tsel)

/-- `PERMUTE(x, TSEL)` (R100): output bit `i` is the input bit that PLUT names at `{TSEL, i - 1}`. -/
def permuteBlock {n : Nat} (t : Tsel) (m : Nat) (x : BitVec n) : BitVec m :=
  blockOfBits m ((List.range m).map fun pos => blockBit x (plut (plutAddr t pos)).toNat)

/-- IP_L (R102). -/
def ipL (x : Block) : Half := permuteBlock .ipL 32 x

/-- IP_R (R103). -/
def ipR (x : Block) : Half := permuteBlock .ipR 32 x

/-- FP, the inverse of the initial permutation (R104). -/
def fp (x : Block) : Block := permuteBlock .fp 64 x

/-- PC1_C, the C half of the parity drop (R105). -/
def pc1C (x : Block) : KeyHalf := permuteBlock .pc1C 28 x

/-- PC1_D, the D half of the parity drop (R106). -/
def pc1D (x : Block) : KeyHalf := permuteBlock .pc1D 28 x

/-- PC2, the compression (R107). -/
def pc2 (x : KeyPair) : RoundKey := permuteBlock .pc2 48 x

/-- E, the expansion (R108). -/
def expand (x : Half) : RoundKey := permuteBlock .e 48 x

/-- P, the P-permutation (R109). -/
def pPerm (x : Half) : Half := permuteBlock .p 32 x

/-- PERM.IP_L. -/
def execPermIpL (x : Block) (s : State) : Host.Outcome State Fault Refusal := .next (s.present (.w32 (ipL x)))

/-- PERM.IP_R. -/
def execPermIpR (x : Block) (s : State) : Host.Outcome State Fault Refusal := .next (s.present (.w32 (ipR x)))

/-- PERM.FP. -/
def execPermFp (x : Block) (s : State) : Host.Outcome State Fault Refusal := .next (s.present (.w64 (fp x)))

/-- PERM.PC1_C. -/
def execPermPc1C (x : Block) (s : State) : Host.Outcome State Fault Refusal := .next (s.present (.w28 (pc1C x)))

/-- PERM.PC1_D. -/
def execPermPc1D (x : Block) (s : State) : Host.Outcome State Fault Refusal := .next (s.present (.w28 (pc1D x)))

/-- PERM.PC2. -/
def execPermPc2 (x : KeyPair) (s : State) : Host.Outcome State Fault Refusal := .next (s.present (.w48 (pc2 x)))

/-- PERM.E. -/
def execPermE (x : Half) (s : State) : Host.Outcome State Fault Refusal := .next (s.present (.w48 (expand x)))

/-- PERM.P. -/
def execPermP (x : Half) (s : State) : Host.Outcome State Fault Refusal := .next (s.present (.w32 (pPerm x)))

/-- The result of PERMUTE at a table select, of that table's output length; the input block is the low `n_in` bits of `x`. -/
def permuteOut (t : Tsel) (x : Block) : UnitOut :=
  match t with
  | .ipL => .w32 (ipL x)
  | .ipR => .w32 (ipR x)
  | .fp => .w64 (fp x)
  | .pc1C => .w28 (pc1C x)
  | .pc1D => .w28 (pc1D x)
  | .pc2 => .w48 (pc2 (x.setWidth 56))
  | .e => .w48 (expand (x.setWidth 32))
  | .p => .w32 (pPerm (x.setWidth 32))

/-- PERMUTE (R100). -/
def execPermute (t : Tsel) (x : Block) (s : State) : Host.Outcome State Fault Refusal := .next (s.present (permuteOut t x))

end Sys2Proof.Machine
end

