-- ==== Sys2Proof/Machine/Sbox.lean ====
section
/-! DEFINITION. The S-box array (41_sbox.md): one lookup in SROM (R120, R121), the eight lanes of a round (R130), and the
meanings of the rows SBOX.S1 to SBOX.S8, SBOX and SUBST32. The array writes no state of the spec. -/

namespace Sys2Proof.Machine

/-- `SBOX(g, b)` (R120). -/
def sboxLookup (g : Group) (b : BitVec 3) : Nibble := srom (sromAddr b g)

/-- `SUBST32(x)` (R130): lane `b` feeds bits `6b+1..6b+6` to box `b`, and the results are joined in box order. -/
def subst32 (x : RoundKey) : Half :=
  sboxLookup (blockSlice x 1 6) 0 ++ sboxLookup (blockSlice x 7 12) 1 ++ sboxLookup (blockSlice x 13 18) 2 ++
  sboxLookup (blockSlice x 19 24) 3 ++ sboxLookup (blockSlice x 25 30) 4 ++ sboxLookup (blockSlice x 31 36) 5 ++
  sboxLookup (blockSlice x 37 42) 6 ++ sboxLookup (blockSlice x 43 48) 7

/-- One lookup, shown on the unit's output. -/
def execLookup (g : Group) (b : BitVec 3) (s : State) : Host.Outcome State Fault Refusal :=
  .next (s.present (.w4 (sboxLookup g b)))

/-- SBOX.S1 (R122). -/
def execSboxS1 (g : Group) (s : State) : Host.Outcome State Fault Refusal := execLookup g 0 s

/-- SBOX.S2 (R123). -/
def execSboxS2 (g : Group) (s : State) : Host.Outcome State Fault Refusal := execLookup g 1 s

/-- SBOX.S3 (R124). -/
def execSboxS3 (g : Group) (s : State) : Host.Outcome State Fault Refusal := execLookup g 2 s

/-- SBOX.S4 (R125). -/
def execSboxS4 (g : Group) (s : State) : Host.Outcome State Fault Refusal := execLookup g 3 s

/-- SBOX.S5 (R126). -/
def execSboxS5 (g : Group) (s : State) : Host.Outcome State Fault Refusal := execLookup g 4 s

/-- SBOX.S6 (R127). -/
def execSboxS6 (g : Group) (s : State) : Host.Outcome State Fault Refusal := execLookup g 5 s

/-- SBOX.S7 (R128). -/
def execSboxS7 (g : Group) (s : State) : Host.Outcome State Fault Refusal := execLookup g 6 s

/-- SBOX.S8 (R129). -/
def execSboxS8 (g : Group) (s : State) : Host.Outcome State Fault Refusal := execLookup g 7 s

/-- SBOX (R120): the generic lookup. -/
def execSbox (g : Group) (b : BitVec 3) (s : State) : Host.Outcome State Fault Refusal := execLookup g b s

/-- SUBST32 (R130). -/
def execSubst32 (x : RoundKey) (s : State) : Host.Outcome State Fault Refusal := .next (s.present (.w32 (subst32 x)))

end Sys2Proof.Machine
end

