-- ==== Sys2Proof/Machine/Round.lean ====
section
/-! DEFINITION. The round function F (42_round_function.md R140) and the row ROUNDF. -/

namespace Sys2Proof.Machine

/-- `ROUNDF(R, K)` (R140): expand, mix the round key, substitute, permute. -/
def roundF (r : Half) (k : RoundKey) : Half := pPerm (subst32 (expand r ^^^ k))

/-- ROUNDF. -/
def execRoundf (r : Half) (k : RoundKey) (s : State) : Host.Outcome State Fault Refusal :=
  .next (s.present (.w32 (roundF r k)))

end Sys2Proof.Machine
end

