-- ==== Sys2Proof/Machine/Feistel.lean ====
section
/-! DEFINITION. The Feistel core and the round-key selector (44_feistel_core.md): the round step (R171), the pair threaded
through the steps (R175), the block transform (R170), and the meanings of FEISTEL, FEISTEL.ROUND and RKSEL. Each reads `RK`
as it is; while no key is loaded its contents are a free value (R23, U1, log entry 7). -/

namespace Sys2Proof.Machine

open Config (Dir)

/-- One round step on a pair (R171): both new halves from the old pair. -/
def feistelStep (k : RoundKey) (p : Half × Half) : Half × Half := (p.2, p.1 ^^^ roundF p.2 k)

/-- The key of step `n = j + 1` (R172). -/
def stepKey (rk : Vector RoundKey 16) (dir : Dir) (j : Fin 16) : RoundKey := rk[rkIndex j dir]

/-- What the round-key selector presents at step `n = j + 1` (R172). -/
def State.selectKey (s : State) (j : Fin 16) (dir : Dir) : RoundKey := s.readRk (rkIndex j dir)

/-- The pair after the steps listed, in order, each from the pair the one before it left (R175). -/
def feistelPair (rk : Vector RoundKey 16) (dir : Dir) (steps : List (Fin 16)) (p : Half × Half) : Half × Half :=
  steps.foldl (fun q j => feistelStep (stepKey rk dir j) q) p

/-- The pair after the initial permutation (R173). -/
def initialPair (x : Block) : Half × Half := (ipL x, ipR x)

/-- The pair `(L16, R16)` of a block (R170). -/
def finalPair (rk : Vector RoundKey 16) (dir : Dir) (x : Block) : Half × Half :=
  feistelPair rk dir (List.finRange 16) (initialPair x)

/-- The output of a pair: the halves in reversed order, no swap, through FP (R174). -/
def outputBlock (p : Half × Half) : Block := fp (p.2 ++ p.1)

/-- `FEISTEL(x, dir)` (R170). -/
def feistel (rk : Vector RoundKey 16) (dir : Dir) (x : Block) : Block := outputBlock (finalPair rk dir x)

/-- The registers `L` and `R` take a pair. -/
def State.setPair (s : State) (p : Half × Half) : State := { s with l := p.1, r := p.2 }

/-- FEISTEL: the transform, with `L` and `R` as the sixteenth step leaves them and the block on the output. -/
def execFeistel (x : Block) (dir : Dir) (s : State) : Host.Outcome State Fault Refusal :=
  .next ((s.setPair (finalPair s.rk dir x)).present (.w64 (feistel s.rk dir x)))

/-- One step on `L` and `R` with the key that the selector gives for `FC_DIR` (R171). -/
def State.roundStep (s : State) (j : Fin 16) : State := s.setPair (feistelStep (s.selectKey j s.fcDir) (s.l, s.r))

/-- FEISTEL.ROUND(n), `n = j + 1`. -/
def execFeistelRound (j : Fin 16) (s : State) : Host.Outcome State Fault Refusal := .next (s.roundStep j)

/-- RKSEL: the selected round key, shown on the selector's output. -/
def execRksel (j : Fin 16) (dir : Dir) (s : State) : Host.Outcome State Fault Refusal :=
  .next (s.present (.w48 (s.selectKey j dir)))

end Sys2Proof.Machine
end

