-- ==== Sys2Proof/Machine/KeySchedule.lean ====
section
/-! DEFINITION. The key schedule engine (43_key_schedule.md): the halves after each round, the sixteen round keys (R150), and
the meanings of KEYSCHED, KS.SPLIT, ROT28, KS.ROUND and KS.COMPRESS, whose only state is `C` and `D` (R150). DEDUCED (log
entries 9 and 10): the round keys that a row forms are its result, which is shown, and the engine that works for a SETKEY
(R158), not the row, keeps them in `RK_SH` and advances `KS_N`. -/

namespace Sys2Proof.Machine

/-- `SHIFTS[i]` (R152). -/
def shiftAmount (i : Nat) : Nat := tables.shifts.getD i 0

/-- `C_n` and `D_n` in the naming of R154: the split halves at 0 (R151), then one rotation a round (R153). -/
def ksHalves (x : Block) : Nat → KeyHalf × KeyHalf
  | 0 => (pc1C x, pc1D x)
  | i + 1 => (rotl28 (ksHalves x i).1 (shiftAmount i), rotl28 (ksHalves x i).2 (shiftAmount i))

/-- KS.COMPRESS (R155): PC2 of `C || D`. -/
def ksCompress (c d : KeyHalf) : RoundKey := pc2 (c ++ d)

/-- `K_i` of a master key: compressed from the halves after round `i`'s rotation (R150, R154). -/
def roundKey (x : Block) (i : Fin 16) : RoundKey := ksCompress (ksHalves x (i + 1)).1 (ksHalves x (i + 1)).2

/-- `KEYSCHED(X)` (R150). -/
def keySchedule (x : Block) : Vector RoundKey 16 := Vector.ofFn (roundKey x)

/-- KS.SPLIT on the registers (R151). -/
def State.splitKey (s : State) (x : Block) : State := { s with c := pc1C x, d := pc1D x }

/-- ROT28 on the registers (R153): both halves by the same amount. -/
def State.rotateHalves (s : State) (i : Fin 16) : State :=
  { s with c := rotl28 s.c (shiftAmount i), d := rotl28 s.d (shiftAmount i) }

/-- The store of `K_i`, compressed from the halves as they are, into the shadow file (R158). -/
def State.storeRoundKey (s : State) (i : Fin 16) : State := { s with rkSh := s.rkSh.set i (ksCompress s.c s.d) }

/-- KS.COMPRESS on the unit's output (R155): the round key of the halves as they are. -/
def State.showRoundKey (s : State) : State := s.present (.w48 (ksCompress s.c s.d))

/-- KEYSCHED on the registers (R150: the transient `C` and `D` only): the halves after round 15. -/
def State.schedule (s : State) (x : Block) : State := { s with c := (ksHalves x 16).1, d := (ksHalves x 16).2 }

/-- KEYSCHED (R150): the halves after round 15, and the sixteen round keys as the result. -/
def execKeysched (x : Block) (s : State) : Host.Outcome State Fault Refusal :=
  .next ((s.schedule x).present (.keys (keySchedule x)))

/-- KS.SPLIT. -/
def execKsSplit (x : Block) (s : State) : Host.Outcome State Fault Refusal := .next (s.splitKey x)

/-- ROT28. -/
def execRot28 (i : Fin 16) (s : State) : Host.Outcome State Fault Refusal := .next (s.rotateHalves i)

/-- KS.ROUND (R154): rotate, then compress. -/
def execKsRound (i : Fin 16) (s : State) : Host.Outcome State Fault Refusal := .next (s.rotateHalves i).showRoundKey

/-- KS.COMPRESS. -/
def execKsCompress (s : State) : Host.Outcome State Fault Refusal := .next s.showRoundKey

end Sys2Proof.Machine
end

