-- ==== Sys2Proof/Machine/Commands.lean ====
section
/-! DEFINITION. The host's commands (45_commands.md), in the atomic reading (10_state.md R31): each ends with one response.
DEDUCED (log entry 6): a command that succeeds leaves the transient registers as the iterative reading leaves them (R158,
R176), so that the two readings agree in every register; a command that fails leaves them alone (R196). DESIGN CHOICE (log entry 21):
either leaves the latches as acceptance filled them. -/

namespace Sys2Proof.Machine

open Config (Dir)

/-- The engine of a SETKEY in progress, all rounds done (R158): the shadow file is full and `KS_N` is 16. -/
def State.runSchedule (s : State) (x : Block) : State := { s.schedule x with ksN := 16, rkSh := keySchedule x }

/-- The Feistel registers of a command in progress, all steps done (R176: `FC_N` is then 16). -/
def State.runFeistel (s : State) (dir : Dir) (x : Block) : State :=
  { s.setPair (finalPair s.rk dir x) with fcDir := dir, fcN := 16 }

/-- ENCRYPT and DECRYPT, which differ in the direction alone (R192, R193). -/
def execCrypt (dir : Dir) (len : Len) (x : Block) (s : State) : Host.Outcome State Fault Refusal :=
  match firstError s false len true with
  | some e => .next (s.raise e)
  | none => .next ((s.runFeistel dir x).respond .ok (feistel s.rk dir x))

/-- SETKEY (R191). -/
def execSetkey (len : Len) (x : Block) (s : State) : Host.Outcome State Fault Refusal :=
  match firstError s false len false with
  | some e => .next (s.raise e)
  | none => .next ((s.runSchedule x).commitKeys.respond .ok 0)

/-- ENCRYPT (R192). -/
def execEncrypt (len : Len) (x : Block) (s : State) : Host.Outcome State Fault Refusal := execCrypt .encrypt len x s

/-- DECRYPT (R193). -/
def execDecrypt (len : Len) (x : Block) (s : State) : Host.Outcome State Fault Refusal := execCrypt .decrypt len x s

/-- ILLEGAL (R194): the operands are ignored. -/
def execIllegal (s : State) : Host.Outcome State Fault Refusal :=
  .next (s.raise ((firstError s true 0 false).getD .illegalCommand))

/-- ILLEGAL.OP3 (R194). -/
def execIllegalOp3 (s : State) : Host.Outcome State Fault Refusal := execIllegal s

/-- ILLEGAL.RSVD (R194). -/
def execIllegalRsvd (s : State) : Host.Outcome State Fault Refusal := execIllegal s

end Sys2Proof.Machine
end

