-- ==== Sys2Proof/Machine/Dispatch.lean ====
section
/-! DEFINITION. One arm per row of the opcode table. -/

namespace Sys2Proof.Machine

/-- The meaning of an instruction. -/
def exec (i : Instr) (s : State) : Host.Outcome State Fault Refusal :=
  match i with
  | .decrypt len x => Sys2Proof.Machine.execDecrypt len x s
  | .encrypt len x => Sys2Proof.Machine.execEncrypt len x s
  | .setkey len x => Sys2Proof.Machine.execSetkey len x s
  | .illegalOp3 _ _ => Sys2Proof.Machine.execIllegalOp3 s
  | .illegalRsvd _ _ _ _ => Sys2Proof.Machine.execIllegalRsvd s
  | .permIpL x => Sys2Proof.Machine.execPermIpL x s
  | .permIpR x => Sys2Proof.Machine.execPermIpR x s
  | .permFp x => Sys2Proof.Machine.execPermFp x s
  | .permPc1C x => Sys2Proof.Machine.execPermPc1C x s
  | .permPc1D x => Sys2Proof.Machine.execPermPc1D x s
  | .permPc2 x => Sys2Proof.Machine.execPermPc2 x s
  | .permE x => Sys2Proof.Machine.execPermE x s
  | .permP x => Sys2Proof.Machine.execPermP x s
  | .sboxS1 g => Sys2Proof.Machine.execSboxS1 g s
  | .sboxS2 g => Sys2Proof.Machine.execSboxS2 g s
  | .sboxS3 g => Sys2Proof.Machine.execSboxS3 g s
  | .sboxS4 g => Sys2Proof.Machine.execSboxS4 g s
  | .sboxS5 g => Sys2Proof.Machine.execSboxS5 g s
  | .sboxS6 g => Sys2Proof.Machine.execSboxS6 g s
  | .sboxS7 g => Sys2Proof.Machine.execSboxS7 g s
  | .sboxS8 g => Sys2Proof.Machine.execSboxS8 g s
  | .permute t x => Sys2Proof.Machine.execPermute t x s
  | .sbox g b => Sys2Proof.Machine.execSbox g b s
  | .subst32 x => Sys2Proof.Machine.execSubst32 x s
  | .roundf r k => Sys2Proof.Machine.execRoundf r k s
  | .keysched x => Sys2Proof.Machine.execKeysched x s
  | .ksSplit x => Sys2Proof.Machine.execKsSplit x s
  | .rot28 k => Sys2Proof.Machine.execRot28 k s
  | .ksRound k => Sys2Proof.Machine.execKsRound k s
  | .ksCompress => Sys2Proof.Machine.execKsCompress s
  | .feistel x dir => Sys2Proof.Machine.execFeistel x dir s
  | .feistelRound j => Sys2Proof.Machine.execFeistelRound j s
  | .rksel j dir => Sys2Proof.Machine.execRksel j dir s

end Sys2Proof.Machine
end

