-- ==== Sys2Proof/Machine/Fetch.lean ====
section
/-! DEFINITION. What the next step runs. The outside presents a list of events (`State.drive`), oldest first (log entry 2).
Reset wins over everything (70_reset_and_hazards.md R230, 60_exceptions.md R216). A command in progress is completed before
anything else is taken (45_commands.md R190: while `BUSY` is 1 no command is accepted). With nothing presented CORE is idle
(R226, R239). -/

namespace Sys2Proof.Machine

/-- What a step does: only change the state, or run an instruction from a state. -/
inductive Fetched where
  | quiet (s : State)
  | run (i : Instr) (s : State)
  deriving DecidableEq, Repr

/-- The taking of a transfer: a command is accepted (R190), a unit operation only has its operands on the unit's input. -/
def State.take (s : State) : Transfer → State
  | .command w x => s.accept w x
  | .psel _ _ => s.quiet
  | .saddr _ => s.quiet
  | .fixed _ => s.quiet

/-- The command in progress, from the latches. -/
def State.inProgress (s : State) : Instr := decodeCommand s.cmdLatch s.dataLatch

/-- The next thing to do, where no reset is next. -/
def State.fetchIdle (s : State) : Fetched :=
  match s.drive with
  | .present t :: rest => .run (decode t) ({ s with drive := rest }.take t)
  | .reset :: rest => .quiet { s with drive := rest }.afterReset
  | [] => .quiet s.quiet

/-- The next thing to do. -/
def State.fetch (s : State) : Fetched :=
  match s.drive with
  | .reset :: rest => .quiet { s with drive := rest }.afterReset
  | _ => if s.busy then .run s.inProgress s.quiet else s.fetchIdle

/-- A transfer placed where the next step takes it: first of what is presented, with CORE ready for it. -/
def State.placeTransfer (s : State) (t : Transfer) : State := { s with busy := false, drive := .present t :: s.drive }

/-- A table word placed where the next step takes it; a word of no format of the table places nothing. -/
def State.placeTableWord (s : State) (nbits w : Nat) : State :=
  match tableTransfer nbits w with
  | some t => s.placeTransfer t
  | none => s

end Sys2Proof.Machine
end

