-- ==== Sys2Proof/Machine/Step.lean ====
section
/-! DEFINITION. One step of CORE in the atomic reading (10_state.md R31, 70_reset_and_hazards.md R238): one command from
acceptance to response, or one unit operation, or one reset, or one idle cycle. -/

namespace Sys2Proof.Machine

/-- One step. -/
def step (s : State) : Host.Outcome State Fault Refusal :=
  match s.fetch with
  | .quiet t => .next t
  | .run i t => exec i t

/-- The state with a table word presented next. -/
def State.withFetchWord (s : State) (nbits w : Nat) : State := s.placeTableWord nbits w

end Sys2Proof.Machine
end

