-- ==== Sys2Proof/Machine/Clock.lean ====
section
/-! DEFINITION. The port cycle by cycle (30_encoding.md R70, 45_commands.md R190, 70_reset_and_hazards.md R230 to R238),
beside `step` and not part of it. The latency of a command is open (R9): `finish` says whether the command in progress, or
the one accepted in this cycle, completes at the end of this cycle (log entry 12), so that a run in which it is first true
`n` cycles after acceptance is a latency of `n + 1`. -/

namespace Sys2Proof.Machine

/-- What the host drives on the port in one cycle (R70). -/
structure PortIn where
  rst : Bool
  cmdValid : Bool
  cmdWord : CmdWord
  cmdData : Block
  deriving DecidableEq, Repr

/-- What CORE drives on the port (R70). -/
structure PortOut where
  cmdReady : Bool
  rspValid : Bool
  rspErr : ErrCode
  rspData : Block
  status : StatusWord
  deriving DecidableEq, Repr

/-- The port's outputs in a cycle (R70, R77, R78): `cmd_ready` from `BUSY` and `rst`, no `rsp_valid` while `rst` is 1 (R230),
the others from their registers. -/
def portOut (p : PortIn) (s : State) : PortOut where
  cmdReady := cmdReady p.rst s
  rspValid := s.rspValid && !p.rst
  rspErr := s.rspErr
  rspData := s.rspData
  status := statusWord s

/-- A cycle of the command in progress: it completes, or it does not yet. -/
def State.continueCommand (s : State) (finish : Bool) : Host.Outcome State Fault Refusal :=
  if finish then exec s.inProgress s else .next s

/-- One cycle of CORE with its latency open. -/
def clock (p : PortIn) (finish : Bool) (s : State) : Host.Outcome State Fault Refusal :=
  if p.rst then .next s.afterReset
  else if s.busy then s.quiet.continueCommand finish
  else if p.cmdValid then (s.accept p.cmdWord p.cmdData).continueCommand finish
  else .next s.quiet

/-- A run of `n` cycles in which the command in progress does not complete and the host drives what the list says. -/
def waitCycles : List PortIn → State → Host.Outcome State Fault Refusal
  | [], s => .next s
  | p :: ps, s =>
    match clock p false s with
    | .next t => waitCycles ps t
    | .fault f => .fault f
    | .refused r => .refused r

end Sys2Proof.Machine
end

