-- ==== Sys2Proof/Machine/Iterative.lean ====
section
/-! DEFINITION. The iterative reading: one key-schedule round (43_key_schedule.md R158) or one Feistel step
(44_feistel_core.md R176) in a cycle, beside `step` and not part of it. DESIGN CHOICE (log entry 13): the checks and the
start take the cycle of acceptance, in which a command that fails also responds, and the finish takes a cycle of its own. -/

namespace Sys2Proof.Machine

open Config (Dir)

/-- The start of the key schedule (R158). -/
def State.startSchedule (s : State) (x : Block) : State := { s.splitKey x with ksN := 0 }

/-- A step of the key schedule after `i` rounds (R158): the halves of KS.ROUND, its round key into the shadow file, and the
counter. -/
def State.stepSchedule (s : State) (i : Fin 16) : State :=
  { (s.rotateHalves i).storeRoundKey i with ksN := s.ksN + 1 }

/-- The finish of the key schedule (R158): the commit and the response. -/
def State.finishSchedule (s : State) : State := s.commitKeys.respond .ok 0

/-- The start of the Feistel core (R176). -/
def State.startFeistel (s : State) (dir : Dir) (x : Block) : State :=
  { s.setPair (initialPair x) with fcDir := dir, fcN := 0 }

/-- A step of the Feistel core after `j` steps (R176): the row FEISTEL.ROUND, and the counter. -/
def State.stepFeistel (s : State) (j : Fin 16) : State := { s.roundStep j with fcN := s.fcN + 1 }

/-- The finish of the Feistel core (R176): the response. -/
def State.finishFeistel (s : State) : State := s.respond .ok (outputBlock (s.l, s.r))

/-- One cycle of SETKEY in progress: a round, or the finish when all sixteen are done. -/
def State.iterSchedule (s : State) : State :=
  if h : s.ksN.toNat < 16 then s.stepSchedule ⟨s.ksN.toNat, h⟩ else s.finishSchedule

/-- One cycle of ENCRYPT or DECRYPT in progress: a step, or the finish when all sixteen are done. -/
def State.iterFeistel (s : State) : State :=
  if h : s.fcN.toNat < 16 then s.stepFeistel ⟨s.fcN.toNat, h⟩ else s.finishFeistel

/-- Which engine a command word's command uses, by `RSVD` and `OP` (R72, R75). -/
inductive Engine where
  | schedule
  | feistel (dir : Dir)
  | noEngine
  deriving DecidableEq, Repr

/-- The engine of a command word. -/
def engineOf (w : CmdWord) : Engine :=
  if cmdRsvd w ≠ 0 then .noEngine
  else if cmdOp w = 0 then .feistel .decrypt
  else if cmdOp w = 1 then .feistel .encrypt
  else if cmdOp w = 2 then .schedule
  else .noEngine

/-- The cycle of acceptance: the command is accepted, checked and started, or it responds with its error. -/
def State.iterAccept (s : State) (w : CmdWord) (x : Block) : State :=
  let a := s.accept w x
  match engineOf w with
  | .schedule =>
    match firstError a false (cmdLen w) false with
    | some e => a.raise e
    | none => a.startSchedule x
  | .feistel dir =>
    match firstError a false (cmdLen w) true with
    | some e => a.raise e
    | none => a.startFeistel dir x
  | .noEngine => a.raise ((firstError a true (cmdLen w) false).getD .illegalCommand)

/-- One cycle of the command in progress. -/
def State.iterBusy (s : State) : State :=
  match engineOf s.cmdLatch with
  | .schedule => s.iterSchedule
  | .feistel _ => s.iterFeistel
  | .noEngine => s.raise ((firstError s true 0 false).getD .illegalCommand)

/-- One cycle of the iterative implementation. -/
def iterClock (p : PortIn) (s : State) : State :=
  if p.rst then s.afterReset
  else if s.busy then s.quiet.iterBusy
  else if p.cmdValid then s.iterAccept p.cmdWord p.cmdData
  else s.quiet

/-- A run of the iterative implementation over what the host drives, cycle by cycle. -/
def iterRun (ps : List PortIn) (s : State) : State := ps.foldl (fun t p => iterClock p t) s

end Sys2Proof.Machine
end

