-- ==== Sys2Proof/Safety.lean ====
section
/-! DEFINITION. What the statements say of a run: the invariant that rules out the states no run reaches, what of a state
belongs to the outside's view, and what of it a command's result may depend on. -/

namespace Sys2Proof.Machine

/-- The invariant: while `KEY_VALID` is 1, `RK` is the whole schedule of one master key (10_state.md R22, R24), and while it is
0, `RK` is as reset leaves it (R23, R25), whatever that free value is (log entry 7); `CFG_FAULT` is the table check's result
(R27); `RSP_ERR` is a code CORE produces (30_encoding.md R84); a failure's data is `0^64` (R29, 60_exceptions.md R217). It says
nothing of a transient register, which holds no value between commands (R34). -/
abbrev State.Inv (s : State) : Prop :=
  (s.keyValid = true → ∃ key : Block, s.rk = keySchedule key) ∧ (s.keyValid = false → s.rk = State.reset.rk) ∧
  s.cfgFault = !checkTables tables ∧ s.rspErr.toNat ≤ 4 ∧ (s.rspErr ≠ 0 → s.rspData = 0)

/-- An event that only uses the host's port: a command or a reset, and no direct drive of an internal unit. -/
def Event.isHost : Event → Bool
  | .reset => true
  | .present (.command _ _) => true
  | .present (.psel _ _) => false
  | .present (.saddr _) => false
  | .present (.fixed _) => false

/-- The outside only uses the host's port from here on. -/
abbrev State.HostDriven (s : State) : Prop := s.drive.all Event.isHost = true

/-- What the host can see (30_encoding.md R70): the response and STATUS. -/
structure HostView where
  rspErr : ErrCode
  rspData : Block
  rspValid : Bool
  status : StatusWord
  deriving DecidableEq, Repr

/-- The host's view of a state. -/
def State.hostView (s : State) : HostView := ⟨s.rspErr, s.rspData, s.rspValid, statusWord s⟩

/-- Two states that agree in everything but the transient registers, the latches and the model's own unit output
(10_state.md R34). -/
abbrev State.AgreeButTransients (s t : State) : Prop :=
  s.rk = t.rk ∧ s.keyValid = t.keyValid ∧ s.busy = t.busy ∧ s.cfgFault = t.cfgFault ∧ s.rspErr = t.rspErr ∧
  s.rspData = t.rspData ∧ s.rspValid = t.rspValid ∧ s.drive = t.drive

/-- Two outcomes that are next states agreeing in everything but the transients, of which nothing is said (10_state.md R34). -/
abbrev AnswerAlike (o p : Host.Outcome State Fault Refusal) : Prop :=
  ∃ t u : State, o = .next t ∧ p = .next u ∧ t.AgreeButTransients u

/-- The instructions of a list, one after another. -/
def execAll : List Instr → State → Host.Outcome State Fault Refusal
  | [], s => .next s
  | i :: is, s =>
    match exec i s with
    | .next t => execAll is t
    | .fault f => .fault f
    | .refused r => .refused r

/-- `n` steps. -/
def stepN : Nat → State → Host.Outcome State Fault Refusal
  | 0, s => .next s
  | n + 1, s =>
    match step s with
    | .next t => stepN n t
    | .fault f => .fault f
    | .refused r => .refused r

/-- A state whose response is a failure with a code, and which is otherwise the state before (60_exceptions.md R217). -/
def State.failed (s : State) (code : ErrCode) : State :=
  { s with rspErr := code, rspData := 0, rspValid := true, busy := false }

end Sys2Proof.Machine
end

