-- ==== Sys2Proof/Certificates/Slice0/Obligations.lean ====
section
/-! DEFINITION. The statements for the provers. Each docstring names the rule of spec/ it formalises; a clause that rests on
a convention of the model says so and names the log entry. -/

open Sys2Proof Sys2Proof.Machine Sys2Proof.Config

/-- 30_encoding.md R71, R80, R81, 41_sbox.md R121: the encoding of a well-formed instruction is well-formed and decodes to
it, at every value of every operand. For the INTERNAL rows, which have no words, the transfer is the model's (log entry 3). -/
def Obligations.DecodeOfEncodeIsIdentity : Prop :=
  ∀ i : Instr, i.WellFormed → decode (encode i) = i ∧ (encode i).WellFormed

/-- 30_encoding.md R75, R80, R81: every transfer has one meaning: what it decodes to is well-formed and is encoded as it. -/
def Obligations.EncodeOfDecodeIsIdentity : Prop :=
  ∀ t : Transfer, t.WellFormed → encode (decode t) = t ∧ (decode t).WellFormed

/-- 30_encoding.md R75, with the fields of R71 as numbers: bits 15:9 are `w / 512`, bits 8:2 `w / 4 mod 128`, bits 1:0
`w mod 4`. -/
def Obligations.CommandWordDecodesByFields : Prop :=
  ∀ (w : CmdWord) (x : Block), decodeCommand w x =
    if w.toNat / 512 ≠ 0 then
      .illegalRsvd (BitVec.ofNat 7 (w.toNat / 512)) (BitVec.ofNat 7 (w.toNat / 4 % 128)) (BitVec.ofNat 2 (w.toNat % 4)) x
    else if w.toNat % 4 = 0 then .decrypt (BitVec.ofNat 7 (w.toNat / 4 % 128)) x
    else if w.toNat % 4 = 1 then .encrypt (BitVec.ofNat 7 (w.toNat / 4 % 128)) x
    else if w.toNat % 4 = 2 then .setkey (BitVec.ofNat 7 (w.toNat / 4 % 128)) x
    else .illegalOp3 (BitVec.ofNat 7 (w.toNat / 4 % 128)) x

/-- 30_encoding.md R87 (the command words), 40_permutation.md (the selects), 41_sbox.md R122 to R129 (the addresses of the
examples): words written out from the spec decode to the rows they stand for. That PERM.E takes the low 32 of 64 input wires
is the model's choice (log entry 16), and so is that a bare table word of 16 bits is read as a command word and one of 8 bits
as a select (log entry 15). -/
def Obligations.KnownWordsDecode : Prop :=
  ∀ x : Block,
    decodeCommand 0x0100 x = .decrypt 64 x ∧ decodeCommand 0x0101 x = .encrypt 64 x ∧
    decodeCommand 0x0102 x = .setkey 64 x ∧ decodeCommand 0x00FC x = .decrypt 63 x ∧
    decodeCommand 0x00FD x = .encrypt 63 x ∧ decodeCommand 0x00FE x = .setkey 63 x ∧
    decodeCommand 0x0104 x = .decrypt 65 x ∧ decodeCommand 0x0105 x = .encrypt 65 x ∧
    decodeCommand 0x0106 x = .setkey 65 x ∧ decodeCommand 0x0103 x = .illegalOp3 64 x ∧
    decodeCommand 0x0301 x = .illegalRsvd 1 64 1 x ∧
    decodePsel 0 x = .permIpL x ∧ decodePsel 4 x = .permPc1D x ∧ decodePsel 6 x = .permE (x.setWidth 32) ∧
    decodeSaddr 12 = .sboxS1 0b011000 ∧ decodeSaddr 88 = .sboxS2 0b010001 ∧ decodeSaddr 304 = .sboxS5 0b100001 ∧
    decodeSaddr 499 = .sboxS8 0b100111 ∧
    decodeTableWord 16 0x0102 = some (.setkey 64 0) ∧ decodeTableWord 8 5 = some (.permPc2 0)

/-- 45_commands.md R190, R195 and 10_state.md R31: with CORE idle and something presented, a step is the meaning of the
instruction it decodes to, after its taking: a command is latched whole and `BUSY` set, a unit operation (the model's, log
entry 3) has its operands on the unit's input. The second clause is the model's choice and no rule of the spec:
`withFetchWord` places a table word first of what is presented and clears `BUSY`, dropping a command in progress (log entry
2), and reads the word by its width (log entry 15), so that the next step runs it. -/
def Obligations.StepRunsPresentedTransfer : Prop :=
  (∀ (s : State) (t : Transfer) (rest : List Event), s.busy = false → s.drive = .present t :: rest →
    step s = exec (decode t) (match t with
      | .command w x => { s with drive := rest, cmdLatch := w, dataLatch := x, busy := true, rspValid := false }
      | .psel _ _ | .saddr _ | .fixed _ => { s with drive := rest, rspValid := false })) ∧
  (∀ (s : State) (nbits w : Nat) (t : Transfer), tableTransfer nbits w = some t →
    decodeTableWord nbits w = some (decode t) ∧
    step (s.withFetchWord nbits w) = exec (decode t) (match t with
      | .command v x => { s with cmdLatch := v, dataLatch := x, busy := true, rspValid := false }
      | .psel _ _ | .saddr _ | .fixed _ => { s with busy := false, rspValid := false }))

/-- 45_commands.md R190: a command in progress runs from its latches before anything else is taken. That a step of the atomic
model completes it is the model's choice (log entry 14): in the atomic reading no step leaves `BUSY` at 1. -/
def Obligations.StepCompletesCommandInProgress : Prop :=
  ∀ s : State, s.busy = true → (∀ rest, s.drive ≠ .reset :: rest) →
    step s = exec (decodeCommand s.cmdLatch s.dataLatch) { s with rspValid := false }

/-- 70_reset_and_hazards.md R230, R239, 60_exceptions.md R226: reset gives the reset state whatever is in progress (what the
outside does next is kept, log entry 18), and with nothing presented CORE stays as it is but for the one-cycle `rsp_valid`. Of
the transients after reset nothing is said (10_state.md R34, R35). That `RK` after every reset is the one free value
`Config.rkAtReset` is the model's choice (log entry 7): R35 and R230 give it no value. -/
def Obligations.StepTakesResetAndIdles : Prop :=
  (∀ (s : State) (rest : List Event), s.drive = .reset :: rest →
    AnswerAlike (step s) (.next { State.reset with drive := rest })) ∧
  (∀ s : State, s.drive = [] → s.busy = false → step s = .next { s with rspValid := false })

/-- 40_permutation.md R100 with R102 to R104: PERM.IP_L, PERM.IP_R and PERM.FP show, at output bit `i`, the input bit that
the table names, and change nothing else (the output field is the model's, log entry 4). -/
def Obligations.BlockPermutationRows : Prop :=
  ∀ (s : State) (x : Block),
    (∃ y : Half, exec (.permIpL x) s = .next { s with out := .w32 y } ∧
      ∀ i, 1 ≤ i → i ≤ 32 → blockBit y i = blockBit x (tableIpL.getD (i - 1) 0)) ∧
    (∃ y : Half, exec (.permIpR x) s = .next { s with out := .w32 y } ∧
      ∀ i, 1 ≤ i → i ≤ 32 → blockBit y i = blockBit x (tableIpR.getD (i - 1) 0)) ∧
    (∃ y : Block, exec (.permFp x) s = .next { s with out := .w64 y } ∧
      ∀ i, 1 ≤ i → i ≤ 64 → blockBit y i = blockBit x (tableFp.getD (i - 1) 0))

/-- 40_permutation.md R100 with R105 to R107: PERM.PC1_C, PERM.PC1_D and PERM.PC2 (log entry 4 as above). -/
def Obligations.KeyPermutationRows : Prop :=
  ∀ (s : State) (x : Block) (z : KeyPair),
    (∃ y : KeyHalf, exec (.permPc1C x) s = .next { s with out := .w28 y } ∧
      ∀ i, 1 ≤ i → i ≤ 28 → blockBit y i = blockBit x (tablePc1C.getD (i - 1) 0)) ∧
    (∃ y : KeyHalf, exec (.permPc1D x) s = .next { s with out := .w28 y } ∧
      ∀ i, 1 ≤ i → i ≤ 28 → blockBit y i = blockBit x (tablePc1D.getD (i - 1) 0)) ∧
    (∃ y : RoundKey, exec (.permPc2 z) s = .next { s with out := .w48 y } ∧
      ∀ i, 1 ≤ i → i ≤ 48 → blockBit y i = blockBit z (tablePc2.getD (i - 1) 0))

/-- 40_permutation.md R100 with R108 and R109: PERM.E, whose output row `j` is input bits `4j - 4 .. 4j + 1` around the
circle (bit 32 before bit 1), and PERM.P by its table (log entry 4 as above). -/
def Obligations.RoundPermutationRows : Prop :=
  ∀ (s : State) (x : Half),
    (∃ y : RoundKey, exec (.permE x) s = .next { s with out := .w48 y } ∧
      ∀ i, 1 ≤ i → i ≤ 48 → blockBit y i = blockBit x ((4 * ((i - 1) / 6) + (i - 1) % 6 + 31) % 32 + 1)) ∧
    (∃ y : Half, exec (.permP x) s = .next { s with out := .w32 y } ∧
      ∀ i, 1 ≤ i → i ≤ 32 → blockBit y i = blockBit x (tableP.getD (i - 1) 0))

/-- 40_permutation.md R100, R101: PERMUTE at a select does what the row of that select does, on an input of that table's
length (log entry 4 as above). -/
def Obligations.GenericPermuteRow : Prop :=
  ∀ (s : State) (t : Tsel) (x : Block), fitsIn t.nIn x →
    ∃ y : UnitOut, exec (.permute t x) s = .next { s with out := y } ∧
      exec (decodePsel (tselCode t) x) s = .next { s with out := y }

/-- 20_memory.md R52 and R53: the words of PLUT and SROM. -/
def Obligations.RomContents : Prop :=
  (∀ (t : Tsel) (p : Nat), p < 64 →
    (plut (tselCode t ++ BitVec.ofNat 6 p)).toNat = (if p < t.nOut then (tables.table t).getD p 0 else 0) ∧
    (p < t.nOut → 1 ≤ (plut (tselCode t ++ BitVec.ofNat 6 p)).toNat ∧
      (plut (tselCode t ++ BitVec.ofNat 6 p)).toNat ≤ 64)) ∧
  (∀ b r c : Nat, b < 8 → r < 4 → c < 16 →
    (srom (BitVec.ofNat 9 (64 * b + 16 * r + c))).toNat = ((tables.sboxes.getD b []).getD r []).getD c 0)

/-- 40_permutation.md R110. -/
def Obligations.InitialPermutationInverse : Prop :=
  ∀ x : Block, fp (ipL x ++ ipR x) = x ∧ ipL (fp x) ++ ipR (fp x) = x

/-- 40_permutation.md R112 and R113: PC2 omits exactly the eight positions and uses every other position once, so that
flipping one bit of its input changes its output but for those eight; E uses sixteen positions twice and the others once. -/
def Obligations.CompressionAndExpansionPositions : Prop :=
  (∀ (x : KeyPair) (p : Nat), 1 ≤ p → p ≤ 56 →
    (pc2 (x ^^^ BitVec.twoPow 56 (56 - p)) = pc2 x ↔ p ∈ [9, 18, 22, 25, 35, 38, 43, 54]) ∧
    (tables.table .pc2).count p = if p ∈ [9, 18, 22, 25, 35, 38, 43, 54] then 0 else 1) ∧
  (∀ p : Nat, 1 ≤ p → p ≤ 32 →
    (tables.table .e).count p = if p ∈ [1, 4, 5, 8, 9, 12, 13, 16, 17, 20, 21, 24, 25, 28, 29, 32] then 2 else 1)

/-- 41_sbox.md R120, R122 to R129: SBOX and each SBOX.S row show the entry of the box at row `2·g⟨1⟩ + g⟨6⟩`, column
`uint(g⟨2..5⟩)`, written on the group's value, and change nothing else (log entry 4 as above). -/
def Obligations.SboxRows : Prop :=
  ∀ (s : State) (g : Group) (b : BitVec 3), ∃ v : Nibble,
    v.toNat = ((tables.sboxes.getD b.toNat []).getD (2 * (g.toNat / 32) + g.toNat % 2) []).getD (g.toNat / 2 % 16) 0 ∧
    exec (.sbox g b) s = .next { s with out := .w4 v } ∧
    (b = 0 → exec (.sboxS1 g) s = .next { s with out := .w4 v }) ∧
    (b = 1 → exec (.sboxS2 g) s = .next { s with out := .w4 v }) ∧
    (b = 2 → exec (.sboxS3 g) s = .next { s with out := .w4 v }) ∧
    (b = 3 → exec (.sboxS4 g) s = .next { s with out := .w4 v }) ∧
    (b = 4 → exec (.sboxS5 g) s = .next { s with out := .w4 v }) ∧
    (b = 5 → exec (.sboxS6 g) s = .next { s with out := .w4 v }) ∧
    (b = 6 → exec (.sboxS7 g) s = .next { s with out := .w4 v }) ∧
    (b = 7 → exec (.sboxS8 g) s = .next { s with out := .w4 v })

/-- 41_sbox.md R121: the address that the lookup reads, as a number and as the encoder's rewiring. -/
def Obligations.SromAddressIsRewiring : Prop :=
  ∀ (b : BitVec 3) (g : Group),
    (sromAddr b g).toNat = 64 * b.toNat + 16 * (2 * (blockBit g 1).toNat + (blockBit g 6).toNat) +
      (8 * (blockBit g 2).toNat + 4 * (blockBit g 3).toNat + 2 * (blockBit g 4).toNat + (blockBit g 5).toNat) ∧
    saddrOf b g = sromAddr b g

/-- 41_sbox.md R130: lane `b` of SUBST32 feeds input bits `6b+1..6b+6` to box `b` and is output bits `4b+1..4b+4`; nothing
else changes (log entry 4 as above). -/
def Obligations.SubstitutionRow : Prop :=
  ∀ (s : State) (x : RoundKey), ∃ y : Half, exec (.subst32 x) s = .next { s with out := .w32 y } ∧
    ∀ b : Nat, b < 8 →
      y.toNat / 2 ^ (28 - 4 * b) % 16 = (sboxLookup (BitVec.ofNat 6 (x.toNat / 2 ^ (42 - 6 * b))) (BitVec.ofNat 3 b)).toNat

/-- 41_sbox.md R131: every row of every box is a permutation of the values 0..15. -/
def Obligations.SboxRowsArePermutations : Prop :=
  ∀ (b : BitVec 3) (row : BitVec 2), Function.Bijective fun col : BitVec 4 => srom (b ++ row ++ col)

/-- 42_round_function.md R140: the six steps, with the rule's corner cases and its example; nothing else changes (log entry 4
as above). -/
def Obligations.RoundFunctionRow : Prop :=
  (∀ (s : State) (r : Half) (k : RoundKey),
    exec (.roundf r k) s = .next { s with out := .w32 (pPerm (subst32 (expand r ^^^ k))) }) ∧
  roundF 0 0 = 0xD8D8DBBC ∧ roundF 0xFFFFFFFF 0 = 0x38DBF9CB ∧ roundF 0 0xFFFFFFFFFFFF = 0x38DBF9CB ∧
  roundF 0xFFFFFFFF 0xFFFFFFFFFFFF = 0xD8D8DBBC ∧ roundF 0xF0AAF0AA 0x1B02EFFC7072 = 0x234AA9BB

/-- 42_round_function.md R141, with its check. -/
def Obligations.RoundFunctionComplement : Prop :=
  (∀ (r : Half) (k : RoundKey), roundF (~~~r) (~~~k) = roundF r k) ∧
  roundF 0x0F550F55 0xE4FD10038F8D = 0x234AA9BB

/-- 43_key_schedule.md R151, R153, R155: KS.SPLIT writes the two halves of the parity drop; ROT28 rotates both halves left by
`SHIFTS[i]`, bit `j` coming from bit `((j - 1 + s) mod 28) + 1`; KS.COMPRESS shows PC2 of `C || D` (the output field is the
model's, log entry 4). Nothing else changes. -/
def Obligations.KeyHalvesRows : Prop :=
  (∀ (s : State) (x : Block), exec (.ksSplit x) s = .next { s with c := pc1C x, d := pc1D x }) ∧
  (∀ (s : State) (i : Fin 16), ∃ c' d' : KeyHalf, exec (.rot28 i) s = .next { s with c := c', d := d' } ∧
    ∀ j, 1 ≤ j → j ≤ 28 →
      blockBit c' j = blockBit s.c ((j - 1 + [1, 1, 2, 2, 2, 2, 2, 2, 1, 2, 2, 2, 2, 2, 2, 1].getD i.val 0) % 28 + 1) ∧
      blockBit d' j = blockBit s.d ((j - 1 + [1, 1, 2, 2, 2, 2, 2, 2, 1, 2, 2, 2, 2, 2, 2, 1].getD i.val 0) % 28 + 1)) ∧
  (∀ s : State, exec .ksCompress s = .next { s with out := .w48 (pc2 (s.c ++ s.d)) })

/-- 43_key_schedule.md R154: KS.ROUND(i) rotates both halves by `SHIFTS[i]`, then compresses them into `K_i`, its result. The
output field is the model's (log entry 4), and that the row leaves `RK_SH` and `KS_N` to the engine of R158 is DEDUCED (log
entries 9 and 10). -/
def Obligations.KeyRoundRow : Prop :=
  ∀ (s : State) (i : Fin 16), ∃ t : State, exec (.rot28 i) s = .next t ∧
    exec (.ksRound i) s = .next { s with c := t.c, d := t.d, out := .w48 (pc2 (t.c ++ t.d)) }

/-- 43_key_schedule.md R159: the amounts sum to 28, and the halves after round 15 are the split halves. -/
def Obligations.ShiftsSumToTwentyEight : Prop :=
  (((List.range 16).map shiftAmount).sum = 28) ∧ (∀ x : Block, ksHalves x 16 = ksHalves x 0) ∧
  ksHalves 0x133457799BBCDFF1 16 = (0xF0CCAAF, 0x556678F)

/-- 43_key_schedule.md R150, R154, R157: KEYSCHED is KS.SPLIT and then the sixteen rounds in ascending order: its key `K_i` is
the one that KS.ROUND(i) shows after the rounds before it, its halves are those after round 15, and its state is `C` and `D`
only; so the round keys come from the master key alone. The output field that shows the results is the model's (log entries 4
and 10). -/
def Obligations.KeyschedIsSplitAndSixteenRounds : Prop :=
  ∀ (s : State) (x : Block), ∃ t : State, exec (.keysched x) s = .next t ∧
    t = { s with c := t.c, d := t.d, out := .keys (keySchedule x) } ∧
    ∀ i : Fin 16, ∃ u : State,
      execAll (.ksSplit x :: ((List.finRange 16).take (i.val + 1)).map .ksRound) s = .next u ∧
      u = { s with c := u.c, d := u.d, out := .w48 (keySchedule x)[i] } ∧ (i.val = 15 → u.c = t.c ∧ u.d = t.d)

/-- 43_key_schedule.md R156, 40_permutation.md R111: the positions PC1_C and PC1_D omit are exactly the parity bits, and each
other position appears once in the two tables; two master keys that differ only in parity bits (positions 8, 16, ..., 64)
give the same round keys, and a SETKEY of one and of the other answer alike, the transient registers apart, of which nothing is
said (10_state.md R34); and a key of any parity is accepted. -/
def Obligations.ParityBitsIgnored : Prop :=
  (∀ p : Nat, 1 ≤ p → p ≤ 64 →
    (tables.table .pc1C ++ tables.table .pc1D).count p = if p ∈ [8, 16, 24, 32, 40, 48, 56, 64] then 0 else 1) ∧
  (∀ x y : Block, (∀ i, 1 ≤ i → i ≤ 64 → i % 8 ≠ 0 → blockBit x i = blockBit y i) →
    keySchedule x = keySchedule y ∧
      ∀ (len : Len) (s : State), AnswerAlike (exec (.setkey len x) s) (exec (.setkey len y) s)) ∧
  (∀ (x : Block) (s : State), s.cfgFault = false → ∃ t : State, exec (.setkey 64 x) s = .next t ∧ t.rspErr = 0)

/-- 95_test_vectors.md P4 (from 40_permutation.md R100 and 43_key_schedule.md R150): complementing the master key complements
every round key. -/
def Obligations.KeyScheduleComplement : Prop :=
  ∀ (x : Block) (i : Fin 16), (keySchedule (~~~x))[i] = ~~~(keySchedule x)[i]

/-- 44_feistel_core.md R172: at step `n` in 1..16 the selector presents `RK[n - 1]` to encrypt and `RK[16 - n]` to decrypt, and
each round key is selected at exactly one step of a command (the output field is the model's, log entry 4). It holds of `RK`
whatever its contents, with a key loaded or none (log entry 7). -/
def Obligations.RoundKeySelectorRow : Prop :=
  (∀ (s : State) (j : Fin 16),
    exec (.rksel j .encrypt) s = .next { s with out := .w48 s.rk[(j.val + 1) - 1] } ∧
    exec (.rksel j .decrypt) s = .next { s with out := .w48 s.rk[16 - (j.val + 1)] }) ∧
  (∀ dir : Dir, Function.Bijective fun j : Fin 16 => rkIndex j dir)

/-- 44_feistel_core.md R171: FEISTEL.ROUND(n), `n = j + 1`, takes the pair to `(R, L XOR F(R, K))`, both from the old pair,
with the key of R172 for the direction in `FC_DIR`; and the old pair is `(R_n XOR F(L_n, K), L_n)`. It raises nothing, in any
state (log entry 7 for `RK` while no key is loaded). That the row leaves `FC_N` to the core is the model's reading of R176
(log entry 9). -/
def Obligations.FeistelRoundRow : Prop :=
  ∀ (s : State) (j : Fin 16), ∃ t : State,
    exec (.feistelRound j) s = .next t ∧
    t = { s with l := s.r, r := s.l ^^^ roundF s.r (stepKey s.rk s.fcDir j) } ∧
    (s.l, s.r) = (t.r ^^^ roundF t.l (stepKey s.rk s.fcDir j), t.l)

/-- 44_feistel_core.md R170, R173 to R175: FEISTEL is the initial split, then the sixteen rows FEISTEL.ROUND in order with
`FC_DIR` at its direction, each on the pair the one before it left, then FP of `R16 || L16` without a swap; `L` and `R` keep
the last pair and nothing else changes (the output field is the model's, log entry 4). It raises nothing, in any state (log
entry 7 for `RK` while no key is loaded). -/
def Obligations.FeistelIsSixteenRounds : Prop :=
  ∀ (s : State) (dir : Dir) (x : Block), ∃ t : State,
    execAll ((List.finRange 16).map .feistelRound) { s with l := ipL x, r := ipR x, fcDir := dir } = .next t ∧
    exec (.feistel x dir) s = .next { s with l := t.l, r := t.r, out := .w64 (fp (t.r ++ t.l)) } ∧
    t = { s with l := t.l, r := t.r, fcDir := dir } ∧ feistel s.rk dir x = fp (t.r ++ t.l)

/-- 45_commands.md R195 (its function is total), 44_feistel_core.md R170 to R172 and the units' rules, which raise nothing: every
instruction answers a next state in every state, with a key loaded or none (log entry 7 for `RK` while none is loaded). -/
def Obligations.EveryInstructionCompletes : Prop :=
  ∀ (i : Instr) (s : State), ∃ t : State, exec i s = .next t

/-- 44_feistel_core.md R179: from any step on, two different pairs give two different output blocks. -/
def Obligations.SequentialDependency : Prop :=
  ∀ (k : Vector RoundKey 16) (dir : Dir) (n : Nat) (p q : Half × Half), p ≠ q →
    outputBlock (feistelPair k dir ((List.finRange 16).drop n) p) ≠
      outputBlock (feistelPair k dir ((List.finRange 16).drop n) q)

/-- 45_commands.md R191: SETKEY, every path. On success the engine's transient registers `C`, `D`, `KS_N` and `RK_SH` may hold
anything (10_state.md R30, R34); everything else is stated. That the latches and the Feistel registers stay is the model's
choice (log entries 6 and 21). -/
def Obligations.SetkeyRow : Prop :=
  ∀ (s : State) (len : Len) (x : Block), ∃ t : State, exec (.setkey len x) s = .next t ∧
    t = if s.cfgFault = true then s.failed 3
      else if len ≠ 64 then s.failed 1
      else { s with rk := keySchedule x, keyValid := true, rspErr := 0, rspData := 0, rspValid := true, busy := false,
                    c := t.c, d := t.d, ksN := t.ksN, rkSh := t.rkSh }

/-- 45_commands.md R192: ENCRYPT, every path. On success the Feistel core's transient registers `L`, `R`, `FC_N` and `FC_DIR`
may hold anything (10_state.md R32, R34); everything else is stated. That the latches and the schedule's registers stay is the
model's choice (log entries 6 and 21). -/
def Obligations.EncryptRow : Prop :=
  ∀ (s : State) (len : Len) (x : Block), ∃ t : State, exec (.encrypt len x) s = .next t ∧
    t = if s.cfgFault = true then s.failed 3
      else if len ≠ 64 then s.failed 1
      else if s.keyValid = false then s.failed 2
      else { s with rspErr := 0, rspData := feistel s.rk .encrypt x, rspValid := true, busy := false,
                    l := t.l, r := t.r, fcN := t.fcN, fcDir := t.fcDir }

/-- 45_commands.md R193: DECRYPT, every path, as ENCRYPT, with the same choices (log entries 6 and 21). -/
def Obligations.DecryptRow : Prop :=
  ∀ (s : State) (len : Len) (x : Block), ∃ t : State, exec (.decrypt len x) s = .next t ∧
    t = if s.cfgFault = true then s.failed 3
      else if len ≠ 64 then s.failed 1
      else if s.keyValid = false then s.failed 2
      else { s with rspErr := 0, rspData := feistel s.rk .decrypt x, rspValid := true, busy := false,
                    l := t.l, r := t.r, fcN := t.fcN, fcDir := t.fcDir }

/-- 45_commands.md R194: the two illegal rows, and every word with `OP = 11` or `RSVD` nonzero. That the latches stay is the
model's choice (log entry 21). -/
def Obligations.IllegalRows : Prop :=
  ∀ s : State,
    (∀ (len : Len) (x : Block),
      exec (.illegalOp3 len x) s = .next (s.failed (if s.cfgFault = true then 3 else 4))) ∧
    (∀ (rsvd : BitVec 7) (len : Len) (op : BitVec 2) (x : Block),
      exec (.illegalRsvd rsvd len op x) s = .next (s.failed (if s.cfgFault = true then 3 else 4))) ∧
    (∀ (w : CmdWord) (x : Block), w.toNat % 4 = 3 ∨ w.toNat / 512 ≠ 0 →
      exec (decodeCommand w x) s = .next (s.failed (if s.cfgFault = true then 3 else 4)))

/-- 45_commands.md R195, with the priority of 60_exceptions.md R215: the response, `RK` and `KEY_VALID` after any command word
and operand, in any state. -/
def Obligations.WholeCommandStep : Prop :=
  ∀ (s : State) (w : CmdWord) (x : Block),
    ∃ t : State, exec (decodeCommand w x) s = .next t ∧
      (t.rk, t.keyValid, t.rspErr, t.rspData) =
        if s.cfgFault = true then (s.rk, s.keyValid, 3, 0)
        else if w.toNat / 512 ≠ 0 ∨ w.toNat % 4 = 3 then (s.rk, s.keyValid, 4, 0)
        else if w.toNat / 4 % 128 ≠ 64 then (s.rk, s.keyValid, 1, 0)
        else if w.toNat % 4 = 2 then (keySchedule x, true, 0, 0)
        else if s.keyValid = false then (s.rk, s.keyValid, 2, 0)
        else if w.toNat % 4 = 1 then (s.rk, s.keyValid, 0, feistel s.rk .encrypt x)
        else (s.rk, s.keyValid, 0, feistel s.rk .decrypt x)

/-- 45_commands.md R196: a command ends with `OK`, or changes nothing but the response registers, which become the code and
`0^64` (`rsp_valid` and `BUSY` are the response's own, R217). -/
def Obligations.FailuresChangeOnlyTheResponse : Prop :=
  ∀ (i : Instr) (s t : State), i.isCommand = true → exec i s = .next t →
    t.rspErr = 0 ∨ (t.rspErr ≠ 0 ∧ t = { s with rspErr := t.rspErr, rspData := 0, rspValid := true, busy := false })

/-- 45_commands.md R197: with `CFG_FAULT = 1` every command, legal or not, fails with InvalidTableIndex and changes nothing
else; with the standard tables reset leaves `CFG_FAULT` at 0. -/
def Obligations.ConfigurationFaultFailsEveryCommand : Prop :=
  (∀ (i : Instr) (s : State), i.isCommand = true → s.cfgFault = true → exec i s = .next (s.failed 3)) ∧
  State.reset.cfgFault = false

/-- 30_encoding.md R76: when a command fails, no bit of `cmd_data` reaches any state: another operand gives the same next
state. -/
def Obligations.OperandIgnoredOnFailure : Prop :=
  ∀ (w : CmdWord) (x y : Block) (s t : State), exec (decodeCommand w x) s = .next t → t.rspErr ≠ 0 →
    exec (decodeCommand w y) s = .next t

/-- 10_state.md R24 (and R22, R25): a SETKEY of length 64 without a configuration fault replaces all sixteen registers and sets
`KEY_VALID` together; no other instruction, and no SETKEY that fails, changes `RK` or `KEY_VALID`. -/
def Obligations.OnlySetkeyChangesKeys : Prop :=
  (∀ (s : State) (x : Block), s.cfgFault = false →
    ∃ t : State, exec (.setkey 64 x) s = .next t ∧ t.rk = keySchedule x ∧ t.keyValid = true) ∧
  (∀ (i : Instr) (s t : State), exec i s = .next t →
    (t.rk = s.rk ∧ t.keyValid = s.keyValid) ∨ (s.cfgFault = false ∧ ∃ x : Block, i = .setkey 64 x)) ∧
  (∀ (s : State) (len : Len) (x : Block), len ≠ 64 ∨ s.cfgFault = true →
    ∃ t : State, exec (.setkey len x) s = .next t ∧ t.rk = s.rk ∧ t.keyValid = s.keyValid)

/-- 10_state.md R25, 60_exceptions.md R212: step by step from an idle state without a configuration fault, `KEY_VALID` is 1
exactly when the step was a successful SETKEY (the one word `0x0102`), or it was 1 before and the step was no reset. -/
def Obligations.KeyValidLifecycle : Prop :=
  ∀ s t : State, s.cfgFault = false → s.busy = false → step s = .next t →
    (t.keyValid = true ↔
      (∃ (x : Block) (rest : List Event), s.drive = .present (.command 0x0102 x) :: rest) ∨
      (s.keyValid = true ∧ ∀ rest : List Event, s.drive ≠ .reset :: rest))

/-- 10_state.md R27: `CFG_FAULT` after reset is 1 exactly when the table check fails; the standard tables pass, so a reset sets
it to 0; and no other step changes it. -/
def Obligations.CfgFaultConstant : Prop :=
  (State.reset.cfgFault = true ↔ checkTables tables = false) ∧ checkTables tables = true ∧
  ∀ s t : State, step s = .next t →
    ((∃ rest : List Event, s.drive = .reset :: rest) → t.cfgFault = false) ∧
    ((∀ rest : List Event, s.drive ≠ .reset :: rest) → t.cfgFault = s.cfgFault)

/-- 40_permutation.md R100, 42_round_function.md R140, 43_key_schedule.md R150, 44_feistel_core.md R170: a unit operation
changes none of `RK`, the flags, the response, the counters, `FC_DIR` or the latches. That such a row runs alone is the
model's (log entry 3), and that it leaves the counters is log entry 9. -/
def Obligations.InternalRowsInvisibleToHost : Prop :=
  ∀ (i : Instr) (s t : State), i.isCommand = false → exec i s = .next t →
    s.AgreeButTransients t ∧ s.hostView = t.hostView ∧ t.ksN = s.ksN ∧ t.fcN = s.fcN ∧ t.fcDir = s.fcDir ∧
    t.cmdLatch = s.cmdLatch ∧ t.dataLatch = s.dataLatch

/-- 10_state.md R34: two idle states that differ only in transient registers, latches and the unit output give, over any
number of steps, whatever is presented, the same view to the host. -/
def Obligations.TransientsDoNotReachHost : Prop :=
  ∀ (n : Nat) (s t : State), s.busy = false → s.AgreeButTransients t →
    ∃ s' t' : State, stepN n s = .next s' ∧ stepN n t = .next t' ∧ s'.AgreeButTransients t' ∧ s'.hostView = t'.hostView

/-- 20_memory.md R60: the same ENCRYPT or DECRYPT twice gives the same response twice and leaves `RK` and the flags; the same
SETKEY twice leaves the same `RK`, `KEY_VALID` and response as once. The states after the first and after the second agree in
everything but the transient registers, of which nothing is said (10_state.md R34). -/
def Obligations.RepeatedCommandsAgree : Prop :=
  (∀ (dir : Dir) (x : Block) (s t : State), execCrypt dir 64 x s = .next t →
    (∃ u : State, execCrypt dir 64 x t = .next u ∧ t.AgreeButTransients u) ∧
    t.rk = s.rk ∧ t.keyValid = s.keyValid ∧ t.cfgFault = s.cfgFault) ∧
  (∀ (x : Block) (s t : State), exec (.setkey 64 x) s = .next t →
    ∃ u : State, exec (.setkey 64 x) t = .next u ∧ t.AgreeButTransients u) ∧
  (∀ (x : Block) (s : State), exec (.encrypt 64 x) s = execCrypt .encrypt 64 x s ∧
    exec (.decrypt 64 x) s = execCrypt .decrypt 64 x s)

/-- 44_feistel_core.md R177: for every key and block, decrypting an encryption, and encrypting a decryption, gives the block
back, through the commands; and the transforms are inverse to each other with any round-key file. -/
def Obligations.RoundTripThroughCommands : Prop :=
  (∀ (k : Vector RoundKey 16) (x : Block),
    feistel k .decrypt (feistel k .encrypt x) = x ∧ feistel k .encrypt (feistel k .decrypt x) = x) ∧
  (∀ (s : State) (key x : Block), s.cfgFault = false → ∃ t u v : State,
    exec (.setkey 64 key) s = .next t ∧ exec (.encrypt 64 x) t = .next u ∧ u.rspErr = 0 ∧
    exec (.decrypt 64 u.rspData) u = .next v ∧ v.rspErr = 0 ∧ v.rspData = x) ∧
  (∀ (s : State) (key x : Block), s.cfgFault = false → ∃ t u v : State,
    exec (.setkey 64 key) s = .next t ∧ exec (.decrypt 64 x) t = .next u ∧ u.rspErr = 0 ∧
    exec (.encrypt 64 u.rspData) u = .next v ∧ v.rspErr = 0 ∧ v.rspData = x)

/-- 44_feistel_core.md R178: the known-answer vector, through the commands, from any state without a configuration fault. -/
def Obligations.KnownAnswer : Prop :=
  ∀ s : State, s.cfgFault = false → ∃ t u v : State,
    exec (.setkey 64 0x133457799BBCDFF1) s = .next t ∧
    exec (.encrypt 64 0x0123456789ABCDEF) t = .next u ∧ u.rspErr = 0 ∧ u.rspData = 0x85E813540F0AB405 ∧
    exec (.decrypt 64 0x85E813540F0AB405) t = .next v ∧ v.rspErr = 0 ∧ v.rspData = 0x0123456789ABCDEF

/-- 95_test_vectors.md L2.10 (from 42_round_function.md R141 and 43_key_schedule.md R150): complementing the key and the block
complements the result, in either direction. -/
def Obligations.ComplementOfCipher : Prop :=
  ∀ (key x : Block) (dir : Dir),
    feistel (keySchedule (~~~key)) dir (~~~x) = ~~~feistel (keySchedule key) dir x

/-- 95_test_vectors.md L2.10 (from 44_feistel_core.md R172, R177): where the round keys read the same in both orders,
encryption is its own inverse and equals decryption; the key `0x0101010101010101` is such a key. -/
def Obligations.SelfReverseScheduleIsInvolution : Prop :=
  (∀ (k : Vector RoundKey 16) (x : Block), (∀ j : Fin 16, k[j] = k[j.rev]) →
    feistel k .encrypt (feistel k .encrypt x) = x ∧ feistel k .decrypt x = feistel k .encrypt x) ∧
  (∀ j : Fin 16, (keySchedule 0x0101010101010101)[j] = (keySchedule 0x0101010101010101)[j.rev])

/-- 20_memory.md R63, 70_reset_and_hazards.md R235: from an idle state without a configuration fault, after a SETKEY and any
commands that are not a successful SETKEY (whose one word is `0x0102`), an ENCRYPT or a DECRYPT responds with the block under
that SETKEY's key. -/
def Obligations.LastLoadedKeyIsUsed : Prop :=
  ∀ (s : State) (key x : Block) (dir : Dir) (cmds : List (CmdWord × Block)) (rest : List Event),
    s.cfgFault = false → s.busy = false → (∀ c ∈ cmds, c.1 ≠ 0x0102) →
    s.drive = .present (.command 0x0102 key) :: (cmds.map (fun c => Event.present (.command c.1 c.2)) ++
      .present (.command (match dir with | .encrypt => 0x0101 | .decrypt => 0x0100) x) :: rest) →
    ∃ t : State, stepN (cmds.length + 2) s = .next t ∧ t.rspErr = 0 ∧ t.rspValid = true ∧
      t.rspData = feistel (keySchedule key) dir x ∧ t.rk = keySchedule key ∧ t.drive = rest

/-- 10_state.md R22 to R25, R27, R29, 30_encoding.md R84: every step, whatever is presented, keeps the invariant. What `RK`
holds at reset is free, one value for every reset; both are the model's choice (log entry 7), and the statement holds for every
value of it. -/
def Obligations.EveryStepKeepsInv : Prop :=
  ∀ s t : State, s.Inv → step s = .next t → t.Inv

/-- 10_state.md R35, 70_reset_and_hazards.md R232: the reset values the spec states, and the invariant at reset. Nothing is said
of the registers to which R35 gives no value (log entries 5 and 7). -/
def Obligations.ResetMeetsInv : Prop :=
  State.reset.Inv ∧ State.reset.keyValid = false ∧ State.reset.busy = false ∧
  State.reset.cfgFault = false ∧ State.reset.rspErr = 0 ∧ State.reset.rspData = 0 ∧ statusWord State.reset = 0 ∧
  cmdReady false State.reset = true

/-- 70_reset_and_hazards.md R239: from every state a step answers a next state with CORE ready again, and where it ran a command,
the command has responded. That a step from `BUSY = 1` completes the command in the latches is the model's choice (log entry
14), which the atomic reading never meets (10_state.md R26). -/
def Obligations.HostCommandsAlwaysComplete : Prop :=
  ∀ s : State, ∃ t : State, step s = .next t ∧ t.busy = false ∧ (s.HostDriven → t.HostDriven) ∧
    ((s.busy = true ∧ ∀ rest : List Event, s.drive ≠ .reset :: rest) ∨
      (s.busy = false ∧ ∃ (w : CmdWord) (x : Block) (rest : List Event), s.drive = .present (.command w x) :: rest) →
      t.rspValid = true)

/-- 43_key_schedule.md R158, 10_state.md R31: a SETKEY run one round a cycle ends, after its acceptance, sixteen rounds and the
finish, in the state the atomic meaning gives, in every register but the transients of the schedule, which hold no value then
(R30, R34). While it is in progress `KS_N` starts at 0 and advances by exactly 1 a round to 16 (R33). The cycle of each part is
the model's (log entry 13), and so is that both readings leave the latches and the other engine's registers alike (log entries
6 and 21). -/
def Obligations.IterativeSetkeyIsAtomic : Prop :=
  ∀ (s : State) (x : Block) (p : PortIn) (ps : List PortIn),
    s.busy = false → s.cfgFault = false → p = ⟨false, true, 0x0102, x⟩ → ps.length = 17 → (∀ q ∈ ps, q.rst = false) →
    (∀ k : Nat, k ≤ 16 → (iterRun ((p :: ps).take (k + 1)) s).busy = true ∧
      (iterRun ((p :: ps).take (k + 1)) s).ksN.toNat = k) ∧
    ∃ t : State, exec (.setkey 64 x) (s.accept 0x0102 x) = .next t ∧ t.rk = keySchedule x ∧ t.rspErr = 0 ∧
      ∃ (c d : KeyHalf) (n : BitVec 5) (sh : Vector RoundKey 16),
        iterRun (p :: ps) s = { t with c := c, d := d, ksN := n, rkSh := sh }

/-- 44_feistel_core.md R176, 10_state.md R31: an ENCRYPT or DECRYPT run one step a cycle ends in the state the atomic meaning
gives, in every register but the transients of the Feistel core, which hold no value then (R32, R34). While it is in progress
`FC_N` starts at 0 and advances by exactly 1 a step to 16 (R33). The cycle of each part is the model's (log
entry 13), and so is that both readings leave the latches and the other engine's registers alike (log entries 6 and 21). -/
def Obligations.IterativeCryptIsAtomic : Prop :=
  ∀ (s : State) (x : Block) (dir : Dir) (w : CmdWord) (p : PortIn) (ps : List PortIn),
    s.cfgFault = false → s.keyValid = true → s.busy = false →
    w = (match dir with | .encrypt => 0x0101 | .decrypt => 0x0100) →
    p = ⟨false, true, w, x⟩ → ps.length = 17 → (∀ q ∈ ps, q.rst = false) →
    (∀ k : Nat, k ≤ 16 → (iterRun ((p :: ps).take (k + 1)) s).busy = true ∧
      (iterRun ((p :: ps).take (k + 1)) s).fcN.toNat = k) ∧
    ∃ t : State, exec (decodeCommand w x) (s.accept w x) = .next t ∧ t.rspData = feistel s.rk dir x ∧ t.rspErr = 0 ∧
      ∃ (l r : Half) (n : BitVec 5) (e : Dir), iterRun (p :: ps) s = { t with l := l, r := r, fcN := n, fcDir := e }

/-- 10_state.md R31, 45_commands.md R196: a command that fails responds, in the iterative implementation, in the cycle of its
acceptance (log entry 13), with the state the atomic meaning gives. That the latches then keep the
accepted word and operand is log entry 21. -/
def Obligations.IterativeFailuresAreAtomic : Prop :=
  ∀ (s t : State) (p : PortIn), s.busy = false → p.rst = false → p.cmdValid = true →
    exec (decodeCommand p.cmdWord p.cmdData) (s.accept p.cmdWord p.cmdData) = .next t → t.rspErr ≠ 0 →
    iterClock p s = t

/-- 70_reset_and_hazards.md R238, 45_commands.md R190: whatever number of cycles a command takes, and whatever the host drives
meanwhile, its completion is the atomic meaning of what was accepted, the transient registers apart, of which nothing is said
(10_state.md R34). The cycle view that leaves the latency open is the model's (log entry 12). -/
def Obligations.LatencyDoesNotMatter : Prop :=
  ∀ (s : State) (p q : PortIn) (ps : List PortIn), s.busy = false → p.rst = false → p.cmdValid = true →
    (∀ i ∈ ps, i.rst = false) → q.rst = false →
    AnswerAlike (clock p true s) (exec (decodeCommand p.cmdWord p.cmdData) (s.accept p.cmdWord p.cmdData)) ∧
    ∃ w : State, waitCycles (p :: ps) s = .next w ∧ w.busy = true ∧
      AnswerAlike (clock q true w) (exec (decodeCommand p.cmdWord p.cmdData) (s.accept p.cmdWord p.cmdData))

/-- 70_reset_and_hazards.md R230: in a cycle with `rst = 1` no command is accepted, there is no response, and the state takes
the reset values, whatever was in progress, in the cycle view and in the iterative implementation alike. Nothing is said of the
transients (10_state.md R34, R35), and what the outside does next is kept (log entry 18). That `RK` after every reset is the one
free value `Config.rkAtReset` is the model's choice (log entry 7): R35 and R230 give it no value. -/
def Obligations.ResetAbandonsCommand : Prop :=
  ∀ (s : State) (p : PortIn) (finish : Bool), p.rst = true →
    (portOut p s).cmdReady = false ∧ (portOut p s).rspValid = false ∧
    AnswerAlike (clock p finish s) (.next { State.reset with drive := s.drive }) ∧
    (iterClock p s).AgreeButTransients { State.reset with drive := s.drive }

/-- 30_encoding.md R70, R77, 45_commands.md R190, 70_reset_and_hazards.md R234: the STATUS word's value, `cmd_ready`, and that
a command presented while CORE is busy has no effect. -/
def Obligations.StatusAndHandshake : Prop :=
  (∀ s : State, (statusWord s).toNat = s.keyValid.toNat + 2 * s.busy.toNat + 4 * s.cfgFault.toNat) ∧
  (∀ (s : State) (rst : Bool), cmdReady rst s = true ↔ s.busy = false ∧ rst = false) ∧
  (∀ (s : State) (finish : Bool) (v : Bool) (w : CmdWord) (x : Block), s.busy = true →
    clock ⟨false, v, w, x⟩ finish s = clock ⟨false, false, 0, 0⟩ finish s)

/-- 20_memory.md R56: byte `j` of a block carries bits `8j+1..8j+8`, as in the rule's example, and the eight bytes give the
block back. -/
def Obligations.BlockBytesRoundTrip : Prop :=
  (blockBytes 0x0123456789ABCDEF = [0x01, 0x23, 0x45, 0x67, 0x89, 0xAB, 0xCD, 0xEF]) ∧
  (∀ (x : Block) (j i : Nat), j < 8 → 1 ≤ i → i ≤ 8 → blockBit (blockByte x j) i = blockBit x (8 * j + i)) ∧
  (∀ x : Block, blockOfBytes (blockBytes x) = x) ∧
  (∀ bytes : List (BitVec 8), bytes.length = 8 → blockBytes (blockOfBytes bytes) = bytes)
end

