-- ==== Sys2Proof/Laws/Blocks.lean ====
section
/-! SUPPORT. Blocks by their 1-based bits (00_scope.md R11 to R13), and what the permutation unit does to each bit. -/

namespace Sys2Proof.Machine

open Config (Tsel)

/-- Two blocks with the same bits are equal. -/
theorem block_ext {n : Nat} {x y : BitVec n} (h : ∀ i, 1 ≤ i → i ≤ n → blockBit x i = blockBit y i) : x = y := by
  apply BitVec.eq_of_getMsbD_eq
  intro i hi
  simpa [blockBit] using h (i + 1) (by omega) (by omega)

/-- A bit of a block given by its bits. -/
theorem blockBit_blockOfBits {m : Nat} {bits : List Bool} (hm : bits.length = m) (i : Nat) :
    blockBit (blockOfBits m bits) i = bits.getD (i - 1) false := by
  subst hm
  simp [blockBit, blockOfBits, BitVec.getMsbD_ofBoolListBE]

@[simp] theorem blockBit_xor {n : Nat} (x y : BitVec n) (i : Nat) :
    blockBit (x ^^^ y) i = (blockBit x i != blockBit y i) := by
  simp [blockBit, BitVec.getMsbD_xor]

/-- A bit of a complement, inside the block. -/
theorem blockBit_not {n : Nat} (x : BitVec n) {i : Nat} (h1 : 1 ≤ i) (hn : i ≤ n) :
    blockBit (~~~x) i = !blockBit x i := by
  have h : i - 1 < n := by omega
  simp [blockBit, BitVec.getMsbD_not, h]

/-- A bit of a concatenation: the first block's bits come first (R13). -/
theorem blockBit_append {n m : Nat} (x : BitVec n) (y : BitVec m) {i : Nat} (h1 : 1 ≤ i) :
    blockBit (x ++ y) i = if i ≤ n then blockBit x i else blockBit y (i - n) := by
  simp only [blockBit, BitVec.getMsbD_append]
  by_cases h : i ≤ n
  · rw [if_pos h, if_neg (by omega)]
  · rw [if_neg h, if_pos (by omega)]
    congr 1
    omega

/-- A select's address splits back into the select and the position (R80). -/
theorem tselOf_plutAddr (t : Tsel) (pos : Nat) : tselOf ((plutAddr t pos).extractLsb' 6 3) = t := by
  have h : (plutAddr t pos).extractLsb' 6 3 = tselCode t := by
    unfold plutAddr
    rw [BitVec.extractLsb'_append_eq_of_le (by omega)]
    simp
  rw [h]
  cases t <;> rfl

theorem pos_plutAddr (t : Tsel) {pos : Nat} (h : pos < 64) : ((plutAddr t pos).extractLsb' 0 6).toNat = pos := by
  have h' : (plutAddr t pos).extractLsb' 0 6 = BitVec.ofNat 6 pos := by
    unfold plutAddr
    rw [BitVec.extractLsb'_append_eq_of_add_le (by omega)]
    simp
  rw [h', BitVec.toNat_ofNat]
  exact Nat.mod_eq_of_lt h

/-- Every table word is a position of at most 64 (R52). -/
theorem table_le_64 (t : Tsel) (pos : Nat) : (tables.table t).getD pos 0 ≤ 64 := by
  have h : ∀ v ∈ tables.table t, v ≤ 64 := by cases t <;> decide
  rw [List.getD_eq_getElem?_getD]
  rcases hv : (tables.table t)[pos]? with _ | v
  · simp
  · simpa using h v (List.mem_of_getElem? hv)

/-- A PLUT word is the table's entry (R52). -/
theorem plut_toNat (t : Tsel) {pos : Nat} (h : pos < 64) :
    (plut (plutAddr t pos)).toNat = (tables.table t).getD pos 0 := by
  have hl := table_le_64 t pos
  simp only [plut, tselOf_plutAddr, pos_plutAddr t h, BitVec.toNat_ofNat]
  omega

/-- What PERMUTE does, bit by bit (R100). -/
theorem blockBit_permuteBlock {n : Nat} (t : Tsel) {m : Nat} (x : BitVec n) {i : Nat} (h1 : 1 ≤ i) (hi : i ≤ m)
    (hm : m ≤ 64) : blockBit (permuteBlock t m x) i = blockBit x ((tables.table t).getD (i - 1) 0) := by
  have h : i - 1 < m := by omega
  rw [permuteBlock, blockBit_blockOfBits (by simp)]
  simp [List.getD_eq_getElem?_getD, h, plut_toNat t (by omega : i - 1 < 64)]

end Sys2Proof.Machine
end

