-- ==== Sys2Proof/Laws/State.lean ====
section
/-! SUPPORT. One lemma per field of State per update, each true by rfl, so that no later proof unfolds a record update. -/

namespace Sys2Proof.Machine

open Config (Dir)

@[simp] theorem respond_rk (s : State) (e : Err) (x : Block) : (s.respond e x).rk = s.rk := rfl
@[simp] theorem respond_keyValid (s : State) (e : Err) (x : Block) : (s.respond e x).keyValid = s.keyValid := rfl
@[simp] theorem respond_busy (s : State) (e : Err) (x : Block) : (s.respond e x).busy = false := rfl
@[simp] theorem respond_cfgFault (s : State) (e : Err) (x : Block) : (s.respond e x).cfgFault = s.cfgFault := rfl
@[simp] theorem respond_rspErr (s : State) (e : Err) (x : Block) : (s.respond e x).rspErr = errCode e := rfl
@[simp] theorem respond_rspData (s : State) (e : Err) (x : Block) : (s.respond e x).rspData = x := rfl
@[simp] theorem respond_c (s : State) (e : Err) (x : Block) : (s.respond e x).c = s.c := rfl
@[simp] theorem respond_d (s : State) (e : Err) (x : Block) : (s.respond e x).d = s.d := rfl
@[simp] theorem respond_ksN (s : State) (e : Err) (x : Block) : (s.respond e x).ksN = s.ksN := rfl
@[simp] theorem respond_rkSh (s : State) (e : Err) (x : Block) : (s.respond e x).rkSh = s.rkSh := rfl
@[simp] theorem respond_l (s : State) (e : Err) (x : Block) : (s.respond e x).l = s.l := rfl
@[simp] theorem respond_r (s : State) (e : Err) (x : Block) : (s.respond e x).r = s.r := rfl
@[simp] theorem respond_fcN (s : State) (e : Err) (x : Block) : (s.respond e x).fcN = s.fcN := rfl
@[simp] theorem respond_fcDir (s : State) (e : Err) (x : Block) : (s.respond e x).fcDir = s.fcDir := rfl
@[simp] theorem respond_cmdLatch (s : State) (e : Err) (x : Block) : (s.respond e x).cmdLatch = s.cmdLatch := rfl
@[simp] theorem respond_dataLatch (s : State) (e : Err) (x : Block) : (s.respond e x).dataLatch = s.dataLatch := rfl
@[simp] theorem respond_rspValid (s : State) (e : Err) (x : Block) : (s.respond e x).rspValid = true := rfl
@[simp] theorem respond_out (s : State) (e : Err) (x : Block) : (s.respond e x).out = s.out := rfl
@[simp] theorem respond_drive (s : State) (e : Err) (x : Block) : (s.respond e x).drive = s.drive := rfl

@[simp] theorem raise_rk (s : State) (e : Err) : (s.raise e).rk = s.rk := rfl
@[simp] theorem raise_keyValid (s : State) (e : Err) : (s.raise e).keyValid = s.keyValid := rfl
@[simp] theorem raise_busy (s : State) (e : Err) : (s.raise e).busy = false := rfl
@[simp] theorem raise_cfgFault (s : State) (e : Err) : (s.raise e).cfgFault = s.cfgFault := rfl
@[simp] theorem raise_rspErr (s : State) (e : Err) : (s.raise e).rspErr = errCode e := rfl
@[simp] theorem raise_rspData (s : State) (e : Err) : (s.raise e).rspData = 0 := rfl
@[simp] theorem raise_c (s : State) (e : Err) : (s.raise e).c = s.c := rfl
@[simp] theorem raise_d (s : State) (e : Err) : (s.raise e).d = s.d := rfl
@[simp] theorem raise_ksN (s : State) (e : Err) : (s.raise e).ksN = s.ksN := rfl
@[simp] theorem raise_rkSh (s : State) (e : Err) : (s.raise e).rkSh = s.rkSh := rfl
@[simp] theorem raise_l (s : State) (e : Err) : (s.raise e).l = s.l := rfl
@[simp] theorem raise_r (s : State) (e : Err) : (s.raise e).r = s.r := rfl
@[simp] theorem raise_fcN (s : State) (e : Err) : (s.raise e).fcN = s.fcN := rfl
@[simp] theorem raise_fcDir (s : State) (e : Err) : (s.raise e).fcDir = s.fcDir := rfl
@[simp] theorem raise_cmdLatch (s : State) (e : Err) : (s.raise e).cmdLatch = s.cmdLatch := rfl
@[simp] theorem raise_dataLatch (s : State) (e : Err) : (s.raise e).dataLatch = s.dataLatch := rfl
@[simp] theorem raise_rspValid (s : State) (e : Err) : (s.raise e).rspValid = true := rfl
@[simp] theorem raise_out (s : State) (e : Err) : (s.raise e).out = s.out := rfl
@[simp] theorem raise_drive (s : State) (e : Err) : (s.raise e).drive = s.drive := rfl

@[simp] theorem accept_rk (s : State) (w : CmdWord) (x : Block) : (s.accept w x).rk = s.rk := rfl
@[simp] theorem accept_keyValid (s : State) (w : CmdWord) (x : Block) : (s.accept w x).keyValid = s.keyValid := rfl
@[simp] theorem accept_busy (s : State) (w : CmdWord) (x : Block) : (s.accept w x).busy = true := rfl
@[simp] theorem accept_cfgFault (s : State) (w : CmdWord) (x : Block) : (s.accept w x).cfgFault = s.cfgFault := rfl
@[simp] theorem accept_rspErr (s : State) (w : CmdWord) (x : Block) : (s.accept w x).rspErr = s.rspErr := rfl
@[simp] theorem accept_rspData (s : State) (w : CmdWord) (x : Block) : (s.accept w x).rspData = s.rspData := rfl
@[simp] theorem accept_c (s : State) (w : CmdWord) (x : Block) : (s.accept w x).c = s.c := rfl
@[simp] theorem accept_d (s : State) (w : CmdWord) (x : Block) : (s.accept w x).d = s.d := rfl
@[simp] theorem accept_ksN (s : State) (w : CmdWord) (x : Block) : (s.accept w x).ksN = s.ksN := rfl
@[simp] theorem accept_rkSh (s : State) (w : CmdWord) (x : Block) : (s.accept w x).rkSh = s.rkSh := rfl
@[simp] theorem accept_l (s : State) (w : CmdWord) (x : Block) : (s.accept w x).l = s.l := rfl
@[simp] theorem accept_r (s : State) (w : CmdWord) (x : Block) : (s.accept w x).r = s.r := rfl
@[simp] theorem accept_fcN (s : State) (w : CmdWord) (x : Block) : (s.accept w x).fcN = s.fcN := rfl
@[simp] theorem accept_fcDir (s : State) (w : CmdWord) (x : Block) : (s.accept w x).fcDir = s.fcDir := rfl
@[simp] theorem accept_cmdLatch (s : State) (w : CmdWord) (x : Block) : (s.accept w x).cmdLatch = w := rfl
@[simp] theorem accept_dataLatch (s : State) (w : CmdWord) (x : Block) : (s.accept w x).dataLatch = x := rfl
@[simp] theorem accept_rspValid (s : State) (w : CmdWord) (x : Block) : (s.accept w x).rspValid = false := rfl
@[simp] theorem accept_out (s : State) (w : CmdWord) (x : Block) : (s.accept w x).out = s.out := rfl
@[simp] theorem accept_drive (s : State) (w : CmdWord) (x : Block) : (s.accept w x).drive = s.drive := rfl

@[simp] theorem present_rk (s : State) (v : UnitOut) : (s.present v).rk = s.rk := rfl
@[simp] theorem present_keyValid (s : State) (v : UnitOut) : (s.present v).keyValid = s.keyValid := rfl
@[simp] theorem present_busy (s : State) (v : UnitOut) : (s.present v).busy = s.busy := rfl
@[simp] theorem present_cfgFault (s : State) (v : UnitOut) : (s.present v).cfgFault = s.cfgFault := rfl
@[simp] theorem present_rspErr (s : State) (v : UnitOut) : (s.present v).rspErr = s.rspErr := rfl
@[simp] theorem present_rspData (s : State) (v : UnitOut) : (s.present v).rspData = s.rspData := rfl
@[simp] theorem present_c (s : State) (v : UnitOut) : (s.present v).c = s.c := rfl
@[simp] theorem present_d (s : State) (v : UnitOut) : (s.present v).d = s.d := rfl
@[simp] theorem present_ksN (s : State) (v : UnitOut) : (s.present v).ksN = s.ksN := rfl
@[simp] theorem present_rkSh (s : State) (v : UnitOut) : (s.present v).rkSh = s.rkSh := rfl
@[simp] theorem present_l (s : State) (v : UnitOut) : (s.present v).l = s.l := rfl
@[simp] theorem present_r (s : State) (v : UnitOut) : (s.present v).r = s.r := rfl
@[simp] theorem present_fcN (s : State) (v : UnitOut) : (s.present v).fcN = s.fcN := rfl
@[simp] theorem present_fcDir (s : State) (v : UnitOut) : (s.present v).fcDir = s.fcDir := rfl
@[simp] theorem present_cmdLatch (s : State) (v : UnitOut) : (s.present v).cmdLatch = s.cmdLatch := rfl
@[simp] theorem present_dataLatch (s : State) (v : UnitOut) : (s.present v).dataLatch = s.dataLatch := rfl
@[simp] theorem present_rspValid (s : State) (v : UnitOut) : (s.present v).rspValid = s.rspValid := rfl
@[simp] theorem present_out (s : State) (v : UnitOut) : (s.present v).out = v := rfl
@[simp] theorem present_drive (s : State) (v : UnitOut) : (s.present v).drive = s.drive := rfl

@[simp] theorem commitKeys_rk (s : State) : s.commitKeys.rk = s.rkSh := rfl
@[simp] theorem commitKeys_keyValid (s : State) : s.commitKeys.keyValid = true := rfl
@[simp] theorem commitKeys_busy (s : State) : s.commitKeys.busy = s.busy := rfl
@[simp] theorem commitKeys_cfgFault (s : State) : s.commitKeys.cfgFault = s.cfgFault := rfl
@[simp] theorem commitKeys_rspErr (s : State) : s.commitKeys.rspErr = s.rspErr := rfl
@[simp] theorem commitKeys_rspData (s : State) : s.commitKeys.rspData = s.rspData := rfl
@[simp] theorem commitKeys_c (s : State) : s.commitKeys.c = s.c := rfl
@[simp] theorem commitKeys_d (s : State) : s.commitKeys.d = s.d := rfl
@[simp] theorem commitKeys_ksN (s : State) : s.commitKeys.ksN = s.ksN := rfl
@[simp] theorem commitKeys_rkSh (s : State) : s.commitKeys.rkSh = s.rkSh := rfl
@[simp] theorem commitKeys_l (s : State) : s.commitKeys.l = s.l := rfl
@[simp] theorem commitKeys_r (s : State) : s.commitKeys.r = s.r := rfl
@[simp] theorem commitKeys_fcN (s : State) : s.commitKeys.fcN = s.fcN := rfl
@[simp] theorem commitKeys_fcDir (s : State) : s.commitKeys.fcDir = s.fcDir := rfl
@[simp] theorem commitKeys_cmdLatch (s : State) : s.commitKeys.cmdLatch = s.cmdLatch := rfl
@[simp] theorem commitKeys_dataLatch (s : State) : s.commitKeys.dataLatch = s.dataLatch := rfl
@[simp] theorem commitKeys_rspValid (s : State) : s.commitKeys.rspValid = s.rspValid := rfl
@[simp] theorem commitKeys_out (s : State) : s.commitKeys.out = s.out := rfl
@[simp] theorem commitKeys_drive (s : State) : s.commitKeys.drive = s.drive := rfl

@[simp] theorem quiet_rk (s : State) : s.quiet.rk = s.rk := rfl
@[simp] theorem quiet_keyValid (s : State) : s.quiet.keyValid = s.keyValid := rfl
@[simp] theorem quiet_busy (s : State) : s.quiet.busy = s.busy := rfl
@[simp] theorem quiet_cfgFault (s : State) : s.quiet.cfgFault = s.cfgFault := rfl
@[simp] theorem quiet_rspErr (s : State) : s.quiet.rspErr = s.rspErr := rfl
@[simp] theorem quiet_rspData (s : State) : s.quiet.rspData = s.rspData := rfl
@[simp] theorem quiet_c (s : State) : s.quiet.c = s.c := rfl
@[simp] theorem quiet_d (s : State) : s.quiet.d = s.d := rfl
@[simp] theorem quiet_ksN (s : State) : s.quiet.ksN = s.ksN := rfl
@[simp] theorem quiet_rkSh (s : State) : s.quiet.rkSh = s.rkSh := rfl
@[simp] theorem quiet_l (s : State) : s.quiet.l = s.l := rfl
@[simp] theorem quiet_r (s : State) : s.quiet.r = s.r := rfl
@[simp] theorem quiet_fcN (s : State) : s.quiet.fcN = s.fcN := rfl
@[simp] theorem quiet_fcDir (s : State) : s.quiet.fcDir = s.fcDir := rfl
@[simp] theorem quiet_cmdLatch (s : State) : s.quiet.cmdLatch = s.cmdLatch := rfl
@[simp] theorem quiet_dataLatch (s : State) : s.quiet.dataLatch = s.dataLatch := rfl
@[simp] theorem quiet_rspValid (s : State) : s.quiet.rspValid = false := rfl
@[simp] theorem quiet_out (s : State) : s.quiet.out = s.out := rfl
@[simp] theorem quiet_drive (s : State) : s.quiet.drive = s.drive := rfl

@[simp] theorem splitKey_rk (s : State) (x : Block) : (s.splitKey x).rk = s.rk := rfl
@[simp] theorem splitKey_keyValid (s : State) (x : Block) : (s.splitKey x).keyValid = s.keyValid := rfl
@[simp] theorem splitKey_busy (s : State) (x : Block) : (s.splitKey x).busy = s.busy := rfl
@[simp] theorem splitKey_cfgFault (s : State) (x : Block) : (s.splitKey x).cfgFault = s.cfgFault := rfl
@[simp] theorem splitKey_rspErr (s : State) (x : Block) : (s.splitKey x).rspErr = s.rspErr := rfl
@[simp] theorem splitKey_rspData (s : State) (x : Block) : (s.splitKey x).rspData = s.rspData := rfl
@[simp] theorem splitKey_c (s : State) (x : Block) : (s.splitKey x).c = pc1C x := rfl
@[simp] theorem splitKey_d (s : State) (x : Block) : (s.splitKey x).d = pc1D x := rfl
@[simp] theorem splitKey_ksN (s : State) (x : Block) : (s.splitKey x).ksN = s.ksN := rfl
@[simp] theorem splitKey_rkSh (s : State) (x : Block) : (s.splitKey x).rkSh = s.rkSh := rfl
@[simp] theorem splitKey_l (s : State) (x : Block) : (s.splitKey x).l = s.l := rfl
@[simp] theorem splitKey_r (s : State) (x : Block) : (s.splitKey x).r = s.r := rfl
@[simp] theorem splitKey_fcN (s : State) (x : Block) : (s.splitKey x).fcN = s.fcN := rfl
@[simp] theorem splitKey_fcDir (s : State) (x : Block) : (s.splitKey x).fcDir = s.fcDir := rfl
@[simp] theorem splitKey_cmdLatch (s : State) (x : Block) : (s.splitKey x).cmdLatch = s.cmdLatch := rfl
@[simp] theorem splitKey_dataLatch (s : State) (x : Block) : (s.splitKey x).dataLatch = s.dataLatch := rfl
@[simp] theorem splitKey_rspValid (s : State) (x : Block) : (s.splitKey x).rspValid = s.rspValid := rfl
@[simp] theorem splitKey_out (s : State) (x : Block) : (s.splitKey x).out = s.out := rfl
@[simp] theorem splitKey_drive (s : State) (x : Block) : (s.splitKey x).drive = s.drive := rfl

@[simp] theorem rotateHalves_rk (s : State) (i : Fin 16) : (s.rotateHalves i).rk = s.rk := rfl
@[simp] theorem rotateHalves_keyValid (s : State) (i : Fin 16) : (s.rotateHalves i).keyValid = s.keyValid := rfl
@[simp] theorem rotateHalves_busy (s : State) (i : Fin 16) : (s.rotateHalves i).busy = s.busy := rfl
@[simp] theorem rotateHalves_cfgFault (s : State) (i : Fin 16) : (s.rotateHalves i).cfgFault = s.cfgFault := rfl
@[simp] theorem rotateHalves_rspErr (s : State) (i : Fin 16) : (s.rotateHalves i).rspErr = s.rspErr := rfl
@[simp] theorem rotateHalves_rspData (s : State) (i : Fin 16) : (s.rotateHalves i).rspData = s.rspData := rfl
@[simp] theorem rotateHalves_c (s : State) (i : Fin 16) : (s.rotateHalves i).c = rotl28 s.c (shiftAmount i) := rfl
@[simp] theorem rotateHalves_d (s : State) (i : Fin 16) : (s.rotateHalves i).d = rotl28 s.d (shiftAmount i) := rfl
@[simp] theorem rotateHalves_ksN (s : State) (i : Fin 16) : (s.rotateHalves i).ksN = s.ksN := rfl
@[simp] theorem rotateHalves_rkSh (s : State) (i : Fin 16) : (s.rotateHalves i).rkSh = s.rkSh := rfl
@[simp] theorem rotateHalves_l (s : State) (i : Fin 16) : (s.rotateHalves i).l = s.l := rfl
@[simp] theorem rotateHalves_r (s : State) (i : Fin 16) : (s.rotateHalves i).r = s.r := rfl
@[simp] theorem rotateHalves_fcN (s : State) (i : Fin 16) : (s.rotateHalves i).fcN = s.fcN := rfl
@[simp] theorem rotateHalves_fcDir (s : State) (i : Fin 16) : (s.rotateHalves i).fcDir = s.fcDir := rfl
@[simp] theorem rotateHalves_cmdLatch (s : State) (i : Fin 16) : (s.rotateHalves i).cmdLatch = s.cmdLatch := rfl
@[simp] theorem rotateHalves_dataLatch (s : State) (i : Fin 16) : (s.rotateHalves i).dataLatch = s.dataLatch := rfl
@[simp] theorem rotateHalves_rspValid (s : State) (i : Fin 16) : (s.rotateHalves i).rspValid = s.rspValid := rfl
@[simp] theorem rotateHalves_out (s : State) (i : Fin 16) : (s.rotateHalves i).out = s.out := rfl
@[simp] theorem rotateHalves_drive (s : State) (i : Fin 16) : (s.rotateHalves i).drive = s.drive := rfl

@[simp] theorem storeRoundKey_rk (s : State) (i : Fin 16) : (s.storeRoundKey i).rk = s.rk := rfl
@[simp] theorem storeRoundKey_keyValid (s : State) (i : Fin 16) : (s.storeRoundKey i).keyValid = s.keyValid := rfl
@[simp] theorem storeRoundKey_busy (s : State) (i : Fin 16) : (s.storeRoundKey i).busy = s.busy := rfl
@[simp] theorem storeRoundKey_cfgFault (s : State) (i : Fin 16) : (s.storeRoundKey i).cfgFault = s.cfgFault := rfl
@[simp] theorem storeRoundKey_rspErr (s : State) (i : Fin 16) : (s.storeRoundKey i).rspErr = s.rspErr := rfl
@[simp] theorem storeRoundKey_rspData (s : State) (i : Fin 16) : (s.storeRoundKey i).rspData = s.rspData := rfl
@[simp] theorem storeRoundKey_c (s : State) (i : Fin 16) : (s.storeRoundKey i).c = s.c := rfl
@[simp] theorem storeRoundKey_d (s : State) (i : Fin 16) : (s.storeRoundKey i).d = s.d := rfl
@[simp] theorem storeRoundKey_ksN (s : State) (i : Fin 16) : (s.storeRoundKey i).ksN = s.ksN := rfl
@[simp] theorem storeRoundKey_rkSh (s : State) (i : Fin 16) : (s.storeRoundKey i).rkSh = s.rkSh.set i (ksCompress s.c s.d) := rfl
@[simp] theorem storeRoundKey_l (s : State) (i : Fin 16) : (s.storeRoundKey i).l = s.l := rfl
@[simp] theorem storeRoundKey_r (s : State) (i : Fin 16) : (s.storeRoundKey i).r = s.r := rfl
@[simp] theorem storeRoundKey_fcN (s : State) (i : Fin 16) : (s.storeRoundKey i).fcN = s.fcN := rfl
@[simp] theorem storeRoundKey_fcDir (s : State) (i : Fin 16) : (s.storeRoundKey i).fcDir = s.fcDir := rfl
@[simp] theorem storeRoundKey_cmdLatch (s : State) (i : Fin 16) : (s.storeRoundKey i).cmdLatch = s.cmdLatch := rfl
@[simp] theorem storeRoundKey_dataLatch (s : State) (i : Fin 16) : (s.storeRoundKey i).dataLatch = s.dataLatch := rfl
@[simp] theorem storeRoundKey_rspValid (s : State) (i : Fin 16) : (s.storeRoundKey i).rspValid = s.rspValid := rfl
@[simp] theorem storeRoundKey_out (s : State) (i : Fin 16) : (s.storeRoundKey i).out = s.out := rfl
@[simp] theorem storeRoundKey_drive (s : State) (i : Fin 16) : (s.storeRoundKey i).drive = s.drive := rfl

@[simp] theorem showRoundKey_rk (s : State) : s.showRoundKey.rk = s.rk := rfl
@[simp] theorem showRoundKey_keyValid (s : State) : s.showRoundKey.keyValid = s.keyValid := rfl
@[simp] theorem showRoundKey_busy (s : State) : s.showRoundKey.busy = s.busy := rfl
@[simp] theorem showRoundKey_cfgFault (s : State) : s.showRoundKey.cfgFault = s.cfgFault := rfl
@[simp] theorem showRoundKey_rspErr (s : State) : s.showRoundKey.rspErr = s.rspErr := rfl
@[simp] theorem showRoundKey_rspData (s : State) : s.showRoundKey.rspData = s.rspData := rfl
@[simp] theorem showRoundKey_c (s : State) : s.showRoundKey.c = s.c := rfl
@[simp] theorem showRoundKey_d (s : State) : s.showRoundKey.d = s.d := rfl
@[simp] theorem showRoundKey_ksN (s : State) : s.showRoundKey.ksN = s.ksN := rfl
@[simp] theorem showRoundKey_rkSh (s : State) : s.showRoundKey.rkSh = s.rkSh := rfl
@[simp] theorem showRoundKey_l (s : State) : s.showRoundKey.l = s.l := rfl
@[simp] theorem showRoundKey_r (s : State) : s.showRoundKey.r = s.r := rfl
@[simp] theorem showRoundKey_fcN (s : State) : s.showRoundKey.fcN = s.fcN := rfl
@[simp] theorem showRoundKey_fcDir (s : State) : s.showRoundKey.fcDir = s.fcDir := rfl
@[simp] theorem showRoundKey_cmdLatch (s : State) : s.showRoundKey.cmdLatch = s.cmdLatch := rfl
@[simp] theorem showRoundKey_dataLatch (s : State) : s.showRoundKey.dataLatch = s.dataLatch := rfl
@[simp] theorem showRoundKey_rspValid (s : State) : s.showRoundKey.rspValid = s.rspValid := rfl
@[simp] theorem showRoundKey_out (s : State) : s.showRoundKey.out = .w48 (ksCompress s.c s.d) := rfl
@[simp] theorem showRoundKey_drive (s : State) : s.showRoundKey.drive = s.drive := rfl

@[simp] theorem schedule_rk (s : State) (x : Block) : (s.schedule x).rk = s.rk := rfl
@[simp] theorem schedule_keyValid (s : State) (x : Block) : (s.schedule x).keyValid = s.keyValid := rfl
@[simp] theorem schedule_busy (s : State) (x : Block) : (s.schedule x).busy = s.busy := rfl
@[simp] theorem schedule_cfgFault (s : State) (x : Block) : (s.schedule x).cfgFault = s.cfgFault := rfl
@[simp] theorem schedule_rspErr (s : State) (x : Block) : (s.schedule x).rspErr = s.rspErr := rfl
@[simp] theorem schedule_rspData (s : State) (x : Block) : (s.schedule x).rspData = s.rspData := rfl
@[simp] theorem schedule_c (s : State) (x : Block) : (s.schedule x).c = (ksHalves x 16).1 := rfl
@[simp] theorem schedule_d (s : State) (x : Block) : (s.schedule x).d = (ksHalves x 16).2 := rfl
@[simp] theorem schedule_ksN (s : State) (x : Block) : (s.schedule x).ksN = s.ksN := rfl
@[simp] theorem schedule_rkSh (s : State) (x : Block) : (s.schedule x).rkSh = s.rkSh := rfl
@[simp] theorem schedule_l (s : State) (x : Block) : (s.schedule x).l = s.l := rfl
@[simp] theorem schedule_r (s : State) (x : Block) : (s.schedule x).r = s.r := rfl
@[simp] theorem schedule_fcN (s : State) (x : Block) : (s.schedule x).fcN = s.fcN := rfl
@[simp] theorem schedule_fcDir (s : State) (x : Block) : (s.schedule x).fcDir = s.fcDir := rfl
@[simp] theorem schedule_cmdLatch (s : State) (x : Block) : (s.schedule x).cmdLatch = s.cmdLatch := rfl
@[simp] theorem schedule_dataLatch (s : State) (x : Block) : (s.schedule x).dataLatch = s.dataLatch := rfl
@[simp] theorem schedule_rspValid (s : State) (x : Block) : (s.schedule x).rspValid = s.rspValid := rfl
@[simp] theorem schedule_out (s : State) (x : Block) : (s.schedule x).out = s.out := rfl
@[simp] theorem schedule_drive (s : State) (x : Block) : (s.schedule x).drive = s.drive := rfl

@[simp] theorem runSchedule_rk (s : State) (x : Block) : (s.runSchedule x).rk = s.rk := rfl
@[simp] theorem runSchedule_keyValid (s : State) (x : Block) : (s.runSchedule x).keyValid = s.keyValid := rfl
@[simp] theorem runSchedule_busy (s : State) (x : Block) : (s.runSchedule x).busy = s.busy := rfl
@[simp] theorem runSchedule_cfgFault (s : State) (x : Block) : (s.runSchedule x).cfgFault = s.cfgFault := rfl
@[simp] theorem runSchedule_rspErr (s : State) (x : Block) : (s.runSchedule x).rspErr = s.rspErr := rfl
@[simp] theorem runSchedule_rspData (s : State) (x : Block) : (s.runSchedule x).rspData = s.rspData := rfl
@[simp] theorem runSchedule_c (s : State) (x : Block) : (s.runSchedule x).c = (ksHalves x 16).1 := rfl
@[simp] theorem runSchedule_d (s : State) (x : Block) : (s.runSchedule x).d = (ksHalves x 16).2 := rfl
@[simp] theorem runSchedule_ksN (s : State) (x : Block) : (s.runSchedule x).ksN = 16 := rfl
@[simp] theorem runSchedule_rkSh (s : State) (x : Block) : (s.runSchedule x).rkSh = keySchedule x := rfl
@[simp] theorem runSchedule_l (s : State) (x : Block) : (s.runSchedule x).l = s.l := rfl
@[simp] theorem runSchedule_r (s : State) (x : Block) : (s.runSchedule x).r = s.r := rfl
@[simp] theorem runSchedule_fcN (s : State) (x : Block) : (s.runSchedule x).fcN = s.fcN := rfl
@[simp] theorem runSchedule_fcDir (s : State) (x : Block) : (s.runSchedule x).fcDir = s.fcDir := rfl
@[simp] theorem runSchedule_cmdLatch (s : State) (x : Block) : (s.runSchedule x).cmdLatch = s.cmdLatch := rfl
@[simp] theorem runSchedule_dataLatch (s : State) (x : Block) : (s.runSchedule x).dataLatch = s.dataLatch := rfl
@[simp] theorem runSchedule_rspValid (s : State) (x : Block) : (s.runSchedule x).rspValid = s.rspValid := rfl
@[simp] theorem runSchedule_out (s : State) (x : Block) : (s.runSchedule x).out = s.out := rfl
@[simp] theorem runSchedule_drive (s : State) (x : Block) : (s.runSchedule x).drive = s.drive := rfl

@[simp] theorem setPair_rk (s : State) (p : Half × Half) : (s.setPair p).rk = s.rk := rfl
@[simp] theorem setPair_keyValid (s : State) (p : Half × Half) : (s.setPair p).keyValid = s.keyValid := rfl
@[simp] theorem setPair_busy (s : State) (p : Half × Half) : (s.setPair p).busy = s.busy := rfl
@[simp] theorem setPair_cfgFault (s : State) (p : Half × Half) : (s.setPair p).cfgFault = s.cfgFault := rfl
@[simp] theorem setPair_rspErr (s : State) (p : Half × Half) : (s.setPair p).rspErr = s.rspErr := rfl
@[simp] theorem setPair_rspData (s : State) (p : Half × Half) : (s.setPair p).rspData = s.rspData := rfl
@[simp] theorem setPair_c (s : State) (p : Half × Half) : (s.setPair p).c = s.c := rfl
@[simp] theorem setPair_d (s : State) (p : Half × Half) : (s.setPair p).d = s.d := rfl
@[simp] theorem setPair_ksN (s : State) (p : Half × Half) : (s.setPair p).ksN = s.ksN := rfl
@[simp] theorem setPair_rkSh (s : State) (p : Half × Half) : (s.setPair p).rkSh = s.rkSh := rfl
@[simp] theorem setPair_l (s : State) (p : Half × Half) : (s.setPair p).l = p.1 := rfl
@[simp] theorem setPair_r (s : State) (p : Half × Half) : (s.setPair p).r = p.2 := rfl
@[simp] theorem setPair_fcN (s : State) (p : Half × Half) : (s.setPair p).fcN = s.fcN := rfl
@[simp] theorem setPair_fcDir (s : State) (p : Half × Half) : (s.setPair p).fcDir = s.fcDir := rfl
@[simp] theorem setPair_cmdLatch (s : State) (p : Half × Half) : (s.setPair p).cmdLatch = s.cmdLatch := rfl
@[simp] theorem setPair_dataLatch (s : State) (p : Half × Half) : (s.setPair p).dataLatch = s.dataLatch := rfl
@[simp] theorem setPair_rspValid (s : State) (p : Half × Half) : (s.setPair p).rspValid = s.rspValid := rfl
@[simp] theorem setPair_out (s : State) (p : Half × Half) : (s.setPair p).out = s.out := rfl
@[simp] theorem setPair_drive (s : State) (p : Half × Half) : (s.setPair p).drive = s.drive := rfl

@[simp] theorem roundStep_rk (s : State) (j : Fin 16) : (s.roundStep j).rk = s.rk := rfl
@[simp] theorem roundStep_keyValid (s : State) (j : Fin 16) : (s.roundStep j).keyValid = s.keyValid := rfl
@[simp] theorem roundStep_busy (s : State) (j : Fin 16) : (s.roundStep j).busy = s.busy := rfl
@[simp] theorem roundStep_cfgFault (s : State) (j : Fin 16) : (s.roundStep j).cfgFault = s.cfgFault := rfl
@[simp] theorem roundStep_rspErr (s : State) (j : Fin 16) : (s.roundStep j).rspErr = s.rspErr := rfl
@[simp] theorem roundStep_rspData (s : State) (j : Fin 16) : (s.roundStep j).rspData = s.rspData := rfl
@[simp] theorem roundStep_c (s : State) (j : Fin 16) : (s.roundStep j).c = s.c := rfl
@[simp] theorem roundStep_d (s : State) (j : Fin 16) : (s.roundStep j).d = s.d := rfl
@[simp] theorem roundStep_ksN (s : State) (j : Fin 16) : (s.roundStep j).ksN = s.ksN := rfl
@[simp] theorem roundStep_rkSh (s : State) (j : Fin 16) : (s.roundStep j).rkSh = s.rkSh := rfl
@[simp] theorem roundStep_l (s : State) (j : Fin 16) : (s.roundStep j).l = s.r := rfl
@[simp] theorem roundStep_r (s : State) (j : Fin 16) : (s.roundStep j).r = s.l ^^^ roundF s.r (s.selectKey j s.fcDir) := rfl
@[simp] theorem roundStep_fcN (s : State) (j : Fin 16) : (s.roundStep j).fcN = s.fcN := rfl
@[simp] theorem roundStep_fcDir (s : State) (j : Fin 16) : (s.roundStep j).fcDir = s.fcDir := rfl
@[simp] theorem roundStep_cmdLatch (s : State) (j : Fin 16) : (s.roundStep j).cmdLatch = s.cmdLatch := rfl
@[simp] theorem roundStep_dataLatch (s : State) (j : Fin 16) : (s.roundStep j).dataLatch = s.dataLatch := rfl
@[simp] theorem roundStep_rspValid (s : State) (j : Fin 16) : (s.roundStep j).rspValid = s.rspValid := rfl
@[simp] theorem roundStep_out (s : State) (j : Fin 16) : (s.roundStep j).out = s.out := rfl
@[simp] theorem roundStep_drive (s : State) (j : Fin 16) : (s.roundStep j).drive = s.drive := rfl

@[simp] theorem runFeistel_rk (s : State) (dir : Dir) (x : Block) : (s.runFeistel dir x).rk = s.rk := rfl
@[simp] theorem runFeistel_keyValid (s : State) (dir : Dir) (x : Block) : (s.runFeistel dir x).keyValid = s.keyValid := rfl
@[simp] theorem runFeistel_busy (s : State) (dir : Dir) (x : Block) : (s.runFeistel dir x).busy = s.busy := rfl
@[simp] theorem runFeistel_cfgFault (s : State) (dir : Dir) (x : Block) : (s.runFeistel dir x).cfgFault = s.cfgFault := rfl
@[simp] theorem runFeistel_rspErr (s : State) (dir : Dir) (x : Block) : (s.runFeistel dir x).rspErr = s.rspErr := rfl
@[simp] theorem runFeistel_rspData (s : State) (dir : Dir) (x : Block) : (s.runFeistel dir x).rspData = s.rspData := rfl
@[simp] theorem runFeistel_c (s : State) (dir : Dir) (x : Block) : (s.runFeistel dir x).c = s.c := rfl
@[simp] theorem runFeistel_d (s : State) (dir : Dir) (x : Block) : (s.runFeistel dir x).d = s.d := rfl
@[simp] theorem runFeistel_ksN (s : State) (dir : Dir) (x : Block) : (s.runFeistel dir x).ksN = s.ksN := rfl
@[simp] theorem runFeistel_rkSh (s : State) (dir : Dir) (x : Block) : (s.runFeistel dir x).rkSh = s.rkSh := rfl
@[simp] theorem runFeistel_l (s : State) (dir : Dir) (x : Block) : (s.runFeistel dir x).l = (finalPair s.rk dir x).1 := rfl
@[simp] theorem runFeistel_r (s : State) (dir : Dir) (x : Block) : (s.runFeistel dir x).r = (finalPair s.rk dir x).2 := rfl
@[simp] theorem runFeistel_fcN (s : State) (dir : Dir) (x : Block) : (s.runFeistel dir x).fcN = 16 := rfl
@[simp] theorem runFeistel_fcDir (s : State) (dir : Dir) (x : Block) : (s.runFeistel dir x).fcDir = dir := rfl
@[simp] theorem runFeistel_cmdLatch (s : State) (dir : Dir) (x : Block) : (s.runFeistel dir x).cmdLatch = s.cmdLatch := rfl
@[simp] theorem runFeistel_dataLatch (s : State) (dir : Dir) (x : Block) : (s.runFeistel dir x).dataLatch = s.dataLatch := rfl
@[simp] theorem runFeistel_rspValid (s : State) (dir : Dir) (x : Block) : (s.runFeistel dir x).rspValid = s.rspValid := rfl
@[simp] theorem runFeistel_out (s : State) (dir : Dir) (x : Block) : (s.runFeistel dir x).out = s.out := rfl
@[simp] theorem runFeistel_drive (s : State) (dir : Dir) (x : Block) : (s.runFeistel dir x).drive = s.drive := rfl

@[simp] theorem afterReset_rk (s : State) : s.afterReset.rk = State.reset.rk := rfl
@[simp] theorem afterReset_keyValid (s : State) : s.afterReset.keyValid = State.reset.keyValid := rfl
@[simp] theorem afterReset_busy (s : State) : s.afterReset.busy = State.reset.busy := rfl
@[simp] theorem afterReset_cfgFault (s : State) : s.afterReset.cfgFault = State.reset.cfgFault := rfl
@[simp] theorem afterReset_rspErr (s : State) : s.afterReset.rspErr = State.reset.rspErr := rfl
@[simp] theorem afterReset_rspData (s : State) : s.afterReset.rspData = State.reset.rspData := rfl
@[simp] theorem afterReset_c (s : State) : s.afterReset.c = State.reset.c := rfl
@[simp] theorem afterReset_d (s : State) : s.afterReset.d = State.reset.d := rfl
@[simp] theorem afterReset_ksN (s : State) : s.afterReset.ksN = State.reset.ksN := rfl
@[simp] theorem afterReset_rkSh (s : State) : s.afterReset.rkSh = State.reset.rkSh := rfl
@[simp] theorem afterReset_l (s : State) : s.afterReset.l = State.reset.l := rfl
@[simp] theorem afterReset_r (s : State) : s.afterReset.r = State.reset.r := rfl
@[simp] theorem afterReset_fcN (s : State) : s.afterReset.fcN = State.reset.fcN := rfl
@[simp] theorem afterReset_fcDir (s : State) : s.afterReset.fcDir = State.reset.fcDir := rfl
@[simp] theorem afterReset_cmdLatch (s : State) : s.afterReset.cmdLatch = State.reset.cmdLatch := rfl
@[simp] theorem afterReset_dataLatch (s : State) : s.afterReset.dataLatch = State.reset.dataLatch := rfl
@[simp] theorem afterReset_rspValid (s : State) : s.afterReset.rspValid = State.reset.rspValid := rfl
@[simp] theorem afterReset_out (s : State) : s.afterReset.out = State.reset.out := rfl
@[simp] theorem afterReset_drive (s : State) : s.afterReset.drive = s.drive := rfl

/-- `CFG_FAULT` after reset: the standard tables pass the check (R27, R213). -/
theorem checkTables_tables : checkTables tables = true := by decide

@[simp] theorem reset_cfgFault : State.reset.cfgFault = false := by
  simp [State.reset, checkTables_tables]

@[simp] theorem reset_rk : State.reset.rk = Vector.ofFn fun i => Config.rkAtReset i := rfl
@[simp] theorem reset_keyValid : State.reset.keyValid = false := rfl
@[simp] theorem reset_busy : State.reset.busy = false := rfl
@[simp] theorem reset_rspErr : State.reset.rspErr = 0 := rfl
@[simp] theorem reset_rspData : State.reset.rspData = 0 := rfl
@[simp] theorem reset_c : State.reset.c = 0 := rfl
@[simp] theorem reset_d : State.reset.d = 0 := rfl
@[simp] theorem reset_ksN : State.reset.ksN = 0 := rfl
@[simp] theorem reset_rkSh : State.reset.rkSh = Vector.replicate 16 0 := rfl
@[simp] theorem reset_l : State.reset.l = 0 := rfl
@[simp] theorem reset_r : State.reset.r = 0 := rfl
@[simp] theorem reset_fcN : State.reset.fcN = 0 := rfl
@[simp] theorem reset_fcDir : State.reset.fcDir = .decrypt := rfl
@[simp] theorem reset_cmdLatch : State.reset.cmdLatch = 0 := rfl
@[simp] theorem reset_dataLatch : State.reset.dataLatch = 0 := rfl
@[simp] theorem reset_rspValid : State.reset.rspValid = false := rfl
@[simp] theorem reset_out : State.reset.out = .none := rfl
@[simp] theorem reset_drive : State.reset.drive = [] := rfl

end Sys2Proof.Machine
end

