-- ==== Sys2Proof/Laws/Commands.lean ====
section
/-! SUPPORT. What a command can do, once for each shared operation (60_exceptions.md R215, 45_commands.md R191 to R197). -/

namespace Sys2Proof.Machine

open Config (Dir)

/-- No error of a legal command: the configuration, the length and, where the command needs one, the key are good (R215). -/
theorem firstError_none {s : State} {len : Len} {k : Bool} :
    firstError s false len k = none ↔ s.cfgFault = false ∧ len = 64 ∧ (k = true → s.keyValid = true) := by
  unfold firstError
  by_cases hl : len = 64
  · subst hl
    rcases s.cfgFault with _ | _ <;> rcases k with _ | _ <;> rcases s.keyValid with _ | _ <;> simp
  · rcases s.cfgFault with _ | _ <;> simp only [Bool.false_eq_true, if_false, if_true, ne_eq, hl, not_false_eq_true, false_and, and_false, reduceCtorEq]

/-- An error that a command reports is none of `OK` (R210). -/
theorem firstError_ne_ok {s : State} {il : Bool} {len : Len} {k : Bool} {e : Err} (h : firstError s il len k = some e) :
    e ≠ .ok := by
  unfold firstError at h
  split at h
  · cases h; simp
  split at h
  · cases h; simp
  split at h
  · cases h; simp
  split at h
  · cases h; simp
  · cases h

/-- The error of a command depends on the state through `CFG_FAULT` and `KEY_VALID` alone. -/
theorem firstError_congr {s t : State} (hc : s.cfgFault = t.cfgFault) (hk : s.keyValid = t.keyValid) (il : Bool)
    (len : Len) (k : Bool) : firstError s il len k = firstError t il len k := by
  simp [firstError, hc, hk]

/-- An illegal word's error (R194, R197). -/
theorem illegalError (s : State) (len : Len) (k : Bool) :
    firstError s true len k = some (if s.cfgFault then .invalidTableIndex else .illegalCommand) := by
  unfold firstError
  rcases s.cfgFault with _ | _ <;> rfl

/-- What an illegal word does (R194). -/
theorem execIllegal_eq (s : State) :
    execIllegal s = .next (s.raise (if s.cfgFault then .invalidTableIndex else .illegalCommand)) := by
  simp [execIllegal, illegalError]

/-- What SETKEY can do (R191): respond with an error and nothing else, or load the whole schedule. -/
theorem execSetkey_cases (len : Len) (x : Block) (s : State) :
    (∃ e, firstError s false len false = some e ∧ execSetkey len x s = .next (s.raise e)) ∨
    (firstError s false len false = none ∧
      execSetkey len x s = .next ((s.runSchedule x).commitKeys.respond .ok 0)) := by
  unfold execSetkey
  rcases h : firstError s false len false with _ | e
  · exact .inr ⟨rfl, rfl⟩
  · exact .inl ⟨e, rfl, rfl⟩

/-- What ENCRYPT and DECRYPT can do (R192, R193): respond with an error and nothing else, or respond with the block. -/
theorem execCrypt_cases (dir : Dir) (len : Len) (x : Block) (s : State) :
    (∃ e, firstError s false len true = some e ∧ execCrypt dir len x s = .next (s.raise e)) ∨
    (firstError s false len true = none ∧
      execCrypt dir len x s = .next ((s.runFeistel dir x).respond .ok (feistel s.rk dir x))) := by
  unfold execCrypt
  rcases h : firstError s false len true with _ | e
  · exact .inr ⟨rfl, rfl⟩
  · exact .inl ⟨e, rfl, rfl⟩

/-- What the selector presents is the step's key in the file as it is (R172). -/
@[simp] theorem selectKey_eq (s : State) (j : Fin 16) (dir : Dir) : s.selectKey j dir = stepKey s.rk dir j := rfl

end Sys2Proof.Machine
end

