-- ==== Sys2Proof/Laws/Exec.lean ====
section
/-! SUPPORT. What an instruction does to the flags, the port and what is presented, once for all of them. -/

namespace Sys2Proof.Machine

open Config (Dir)

/-- A command word decodes to a row of the command space, whatever it is (30_encoding.md R75). -/
theorem isCommand_decodeCommand (w : CmdWord) (x : Block) : (decodeCommand w x).isCommand = true := by
  unfold decodeCommand
  split_ifs <;> rfl

/-- What an instruction leaves and does beside its result: the list of what is presented and `CFG_FAULT` stay; a command ends
with its response and `BUSY` cleared (45_commands.md R190), and a unit operation leaves both alone. -/
theorem exec_port {i : Instr} {s t : State} (h : exec i s = .next t) :
    t.drive = s.drive ∧ t.cfgFault = s.cfgFault ∧ (i.isCommand = true → t.rspValid = true ∧ t.busy = false) ∧
    (i.isCommand = false → t.rspValid = s.rspValid ∧ t.busy = s.busy) := by
  have crypt : ∀ dir len x, execCrypt dir len x s = .next t →
      t.drive = s.drive ∧ t.cfgFault = s.cfgFault ∧ t.rspValid = true ∧ t.busy = false := by
    intro dir len x h
    rcases execCrypt_cases dir len x s with ⟨_, _, h'⟩ | ⟨_, h'⟩ <;> rw [h'] at h <;> cases h <;> exact ⟨rfl, rfl, rfl, rfl⟩
  cases i with
  | decrypt len x =>
    obtain ⟨hd, hc, hr⟩ := crypt _ _ _ h
    exact ⟨hd, hc, fun _ => hr, Bool.noConfusion⟩
  | encrypt len x =>
    obtain ⟨hd, hc, hr⟩ := crypt _ _ _ h
    exact ⟨hd, hc, fun _ => hr, Bool.noConfusion⟩
  | setkey len x =>
    rcases execSetkey_cases len x s with ⟨_, _, h'⟩ | ⟨_, h'⟩ <;> rw [exec, h'] at h <;> cases h <;>
      exact ⟨rfl, rfl, fun _ => ⟨rfl, rfl⟩, Bool.noConfusion⟩
  | illegalOp3 len x => cases h; exact ⟨rfl, rfl, fun _ => ⟨rfl, rfl⟩, Bool.noConfusion⟩
  | illegalRsvd rsvd len op x => cases h; exact ⟨rfl, rfl, fun _ => ⟨rfl, rfl⟩, Bool.noConfusion⟩
  | _ => cases h; exact ⟨rfl, rfl, Bool.noConfusion, fun _ => ⟨rfl, rfl⟩⟩

end Sys2Proof.Machine
end

