-- ==== Sys2Proof/Laws/PerInstr.lean ====
section
/-! SUPPORT. A family of statements with one lemma per constructor: the encoding of a well-formed instruction lies in its own
row of spec/opcode_table.json, by the row's match and mask, or its condition, or its name. -/

namespace Sys2Proof.Laws.TableRow

/-- A command word of a row with one match and mask pair. -/
abbrev commandRow (mask m : CmdWord) : Transfer → Prop
  | .command w _ => w &&& mask = m
  | .psel _ _ => False
  | .saddr _ => False
  | .fixed _ => False

/-- A command word of ILLEGAL.RSVD: `(cmd_word AND 0xFE00) != 0`. -/
abbrev reservedRow : Transfer → Prop
  | .command w _ => w &&& 0xFE00 ≠ 0
  | .psel _ _ => False
  | .saddr _ => False
  | .fixed _ => False

/-- A select of a PSEL3 row. -/
abbrev pselRow (m : BitVec 3) : Transfer → Prop
  | .command _ _ => False
  | .psel c _ => c &&& 0x7 = m
  | .saddr _ => False
  | .fixed _ => False

/-- An address of a SADDR9 row. -/
abbrev saddrRow (m : BitVec 9) : Transfer → Prop
  | .command _ _ => False
  | .psel _ _ => False
  | .saddr a => a &&& 0x1C0 = m
  | .fixed _ => False

/-- An INTERNAL row, which has no word: the operation of that name. -/
abbrev fixedRow (op : FixedOp) (t : Transfer) : Prop := t = .fixed op

/-- The row of an instruction. -/
abbrev inRow : Instr → Transfer → Prop
  | .decrypt _ _ => commandRow 0xFE03 0x0000
  | .encrypt _ _ => commandRow 0xFE03 0x0001
  | .setkey _ _ => commandRow 0xFE03 0x0002
  | .illegalOp3 _ _ => commandRow 0xFE03 0x0003
  | .illegalRsvd _ _ _ _ => reservedRow
  | .permIpL _ => pselRow 0
  | .permIpR _ => pselRow 1
  | .permFp _ => pselRow 2
  | .permPc1C _ => pselRow 3
  | .permPc1D _ => pselRow 4
  | .permPc2 _ => pselRow 5
  | .permE _ => pselRow 6
  | .permP _ => pselRow 7
  | .sboxS1 _ => saddrRow 0x000
  | .sboxS2 _ => saddrRow 0x040
  | .sboxS3 _ => saddrRow 0x080
  | .sboxS4 _ => saddrRow 0x0C0
  | .sboxS5 _ => saddrRow 0x100
  | .sboxS6 _ => saddrRow 0x140
  | .sboxS7 _ => saddrRow 0x180
  | .sboxS8 _ => saddrRow 0x1C0
  | .permute t x => fixedRow (.permute t x)
  | .sbox g b => fixedRow (.sbox g b)
  | .subst32 x => fixedRow (.subst32 x)
  | .roundf r k => fixedRow (.roundf r k)
  | .keysched x => fixedRow (.keysched x)
  | .ksSplit x => fixedRow (.ksSplit x)
  | .rot28 i => fixedRow (.rot28 i)
  | .ksRound i => fixedRow (.ksRound i)
  | .ksCompress => fixedRow .ksCompress
  | .feistel x dir => fixedRow (.feistel x dir)
  | .feistelRound j => fixedRow (.feistelRound j)
  | .rksel j dir => fixedRow (.rksel j dir)

/-- A well-formed instruction is encoded in its own row. -/
def Statement (i : Instr) : Prop := i.WellFormed → inRow i (encode i)

theorem decrypt (len : Len) (x : Block) : Statement (.decrypt len x) := fun _ =>
  (by decide : ∀ len : Len, cmdWord 0 len 0 &&& 0xFE03 = 0x0000) len
theorem encrypt (len : Len) (x : Block) : Statement (.encrypt len x) := fun _ =>
  (by decide : ∀ len : Len, cmdWord 0 len 1 &&& 0xFE03 = 0x0001) len
theorem setkey (len : Len) (x : Block) : Statement (.setkey len x) := fun _ =>
  (by decide : ∀ len : Len, cmdWord 0 len 2 &&& 0xFE03 = 0x0002) len
theorem illegalOp3 (len : Len) (x : Block) : Statement (.illegalOp3 len x) := fun _ =>
  (by decide : ∀ len : Len, cmdWord 0 len 3 &&& 0xFE03 = 0x0003) len

theorem illegalRsvd (rsvd : BitVec 7) (len : Len) (op : BitVec 2) (x : Block) :
    Statement (.illegalRsvd rsvd len op x) := fun (h : rsvd ≠ 0) (h0 : cmdWord rsvd len op &&& 0xFE00 = 0) => by
  have hr : (cmdWord rsvd len op).extractLsb' 9 7 = rsvd := by
    unfold cmdWord
    rw [BitVec.extractLsb'_append_eq_of_le (by omega), BitVec.extractLsb'_append_eq_of_le (by omega)]
    simp
  have h1 := congrArg (BitVec.extractLsb' 9 7) h0
  rw [BitVec.extractLsb'_and, hr, show (0xFE00 : CmdWord).extractLsb' 9 7 = BitVec.allOnes 7 from by decide,
    BitVec.and_allOnes] at h1
  exact h (by simpa using h1)

theorem permIpL (x : Block) : Statement (.permIpL x) := fun _ => rfl
theorem permIpR (x : Block) : Statement (.permIpR x) := fun _ => rfl
theorem permFp (x : Block) : Statement (.permFp x) := fun _ => rfl
theorem permPc1C (x : Block) : Statement (.permPc1C x) := fun _ => rfl
theorem permPc1D (x : Block) : Statement (.permPc1D x) := fun _ => rfl
theorem permPc2 (x : KeyPair) : Statement (.permPc2 x) := fun _ => rfl
theorem permE (x : Half) : Statement (.permE x) := fun _ => rfl
theorem permP (x : Half) : Statement (.permP x) := fun _ => rfl

theorem sboxS1 (g : Group) : Statement (.sboxS1 g) := fun _ =>
  (by decide : ∀ g : Group, saddrOf 0 g &&& 0x1C0 = 0x000) g
theorem sboxS2 (g : Group) : Statement (.sboxS2 g) := fun _ =>
  (by decide : ∀ g : Group, saddrOf 1 g &&& 0x1C0 = 0x040) g
theorem sboxS3 (g : Group) : Statement (.sboxS3 g) := fun _ =>
  (by decide : ∀ g : Group, saddrOf 2 g &&& 0x1C0 = 0x080) g
theorem sboxS4 (g : Group) : Statement (.sboxS4 g) := fun _ =>
  (by decide : ∀ g : Group, saddrOf 3 g &&& 0x1C0 = 0x0C0) g
theorem sboxS5 (g : Group) : Statement (.sboxS5 g) := fun _ =>
  (by decide : ∀ g : Group, saddrOf 4 g &&& 0x1C0 = 0x100) g
theorem sboxS6 (g : Group) : Statement (.sboxS6 g) := fun _ =>
  (by decide : ∀ g : Group, saddrOf 5 g &&& 0x1C0 = 0x140) g
theorem sboxS7 (g : Group) : Statement (.sboxS7 g) := fun _ =>
  (by decide : ∀ g : Group, saddrOf 6 g &&& 0x1C0 = 0x180) g
theorem sboxS8 (g : Group) : Statement (.sboxS8 g) := fun _ =>
  (by decide : ∀ g : Group, saddrOf 7 g &&& 0x1C0 = 0x1C0) g

theorem permute (t : Config.Tsel) (x : Block) : Statement (.permute t x) := fun _ => rfl
theorem sbox (g : Group) (b : BitVec 3) : Statement (.sbox g b) := fun _ => rfl
theorem subst32 (x : RoundKey) : Statement (.subst32 x) := fun _ => rfl
theorem roundf (r : Half) (k : RoundKey) : Statement (.roundf r k) := fun _ => rfl
theorem keysched (x : Block) : Statement (.keysched x) := fun _ => rfl
theorem ksSplit (x : Block) : Statement (.ksSplit x) := fun _ => rfl
theorem rot28 (i : Fin 16) : Statement (.rot28 i) := fun _ => rfl
theorem ksRound (i : Fin 16) : Statement (.ksRound i) := fun _ => rfl
theorem ksCompress : Statement .ksCompress := fun _ => rfl
theorem feistel (x : Block) (dir : Config.Dir) : Statement (.feistel x dir) := fun _ => rfl
theorem feistelRound (j : Fin 16) : Statement (.feistelRound j) := fun _ => rfl
theorem rksel (j : Fin 16) (dir : Config.Dir) : Statement (.rksel j dir) := fun _ => rfl

end Sys2Proof.Laws.TableRow
end

