-- ==== Sys2Proof/Laws/Safety.lean ====
section
/-! SUPPORT. The small laws of the notions that statements speak of: agreement but for the transients (10_state.md R34), and
lists of instructions. -/

namespace Sys2Proof.Machine

/-- A state agrees with itself. -/
theorem agree_refl (s : State) : s.AgreeButTransients s := ⟨rfl, rfl, rfl, rfl, rfl, rfl, rfl, rfl⟩

/-- An outcome that is a next state answers like itself. -/
theorem answerAlike_self {o : Host.Outcome State Fault Refusal} (h : ∃ t, o = .next t) : AnswerAlike o o :=
  h.elim fun t e => ⟨t, t, e, e, agree_refl t⟩

/-- A list of instructions with one more at its end: that one runs in the state the others answer. -/
theorem execAll_concat {is : List Instr} {s t : State} (i : Instr) (h : execAll is s = .next t) :
    execAll (is ++ [i]) s = exec i t := by
  induction is generalizing s with
  | nil =>
    simp only [execAll] at h
    cases h
    simp only [List.nil_append, execAll]
    cases exec i t <;> rfl
  | cons j js ih =>
    simp only [List.cons_append, execAll] at h ⊢
    cases hj : exec j s with
    | next u => rw [hj] at h; exact ih h
    | fault f => rw [hj] at h; cases h
    | refused r => rw [hj] at h; cases h

end Sys2Proof.Machine
end

