-- ==== Sys2Proof/Laws/Step.lean ====
section
/-! SUPPORT. What a step takes next, by what the outside presents (Machine/Fetch.lean). -/

namespace Sys2Proof.Machine

/-- Reset is next: it wins (70_reset_and_hazards.md R230). -/
theorem fetch_reset {s : State} {rest : List Event} (h : s.drive = .reset :: rest) :
    s.fetch = .quiet { State.reset with drive := rest } := by
  unfold State.fetch
  rw [h]
  rfl

/-- A command in progress is completed before anything else is taken (45_commands.md R190). -/
theorem fetch_busy {s : State} (hb : s.busy = true) (h : ∀ rest, s.drive ≠ .reset :: rest) :
    s.fetch = .run s.inProgress s.quiet := by
  unfold State.fetch
  split
  · next hd => exact absurd hd (h _)
  · simp [hb]

/-- A transfer is next and CORE is ready for it. -/
theorem fetch_present {s : State} {t : Transfer} {rest : List Event} (hb : s.busy = false)
    (h : s.drive = .present t :: rest) : s.fetch = .run (decode t) ({ s with drive := rest }.take t) := by
  unfold State.fetch State.fetchIdle
  rw [h]
  simp [hb]

/-- Nothing is presented and nothing is in progress. -/
theorem fetch_idle {s : State} (hb : s.busy = false) (h : s.drive = []) : s.fetch = .quiet s.quiet := by
  unfold State.fetch State.fetchIdle
  rw [h]
  simp [hb]

/-- What a step can do, once: reset, complete the command in progress, run what is presented, or idle. -/
theorem step_cases (s : State) :
    (∃ rest, s.drive = .reset :: rest ∧ step s = .next { State.reset with drive := rest }) ∨
    (s.busy = true ∧ (∀ rest, s.drive ≠ .reset :: rest) ∧ step s = exec s.inProgress s.quiet) ∨
    (∃ t rest, s.busy = false ∧ s.drive = .present t :: rest ∧
      step s = exec (decode t) ({ s with drive := rest }.take t)) ∨
    (s.busy = false ∧ s.drive = [] ∧ step s = .next s.quiet) := by
  by_cases hr : ∃ rest, s.drive = .reset :: rest
  · obtain ⟨rest, h⟩ := hr
    exact .inl ⟨rest, h, by simp [step, fetch_reset h]⟩
  have hr' : ∀ rest, s.drive ≠ .reset :: rest := fun rest h => hr ⟨rest, h⟩
  by_cases hb : s.busy = true
  · exact .inr (.inl ⟨hb, hr', by simp [step, fetch_busy hb hr']⟩)
  have hb' : s.busy = false := by simpa using hb
  match hd : s.drive with
  | [] => exact .inr (.inr (.inr ⟨hb', rfl, by simp [step, fetch_idle hb' hd]⟩))
  | .reset :: rest => exact absurd hd (hr' rest)
  | .present t :: rest => exact .inr (.inr (.inl ⟨t, rest, hb', rfl, by simp [step, fetch_present hb' hd]⟩))

/-- The taking of a transfer leaves all but the port's registers alone. -/
theorem take_keeps (s : State) (t : Transfer) :
    (s.take t).rk = s.rk ∧ (s.take t).keyValid = s.keyValid ∧ (s.take t).cfgFault = s.cfgFault ∧
    (s.take t).rspErr = s.rspErr ∧ (s.take t).rspData = s.rspData ∧ (s.take t).drive = s.drive ∧
    (s.take t).ksN = s.ksN ∧ (s.take t).fcN = s.fcN := by
  cases t <;> exact ⟨rfl, rfl, rfl, rfl, rfl, rfl, rfl, rfl⟩

end Sys2Proof.Machine
end

