-- ==== Sys2Proof/Laws/Units.lean ====
section
/-! SUPPORT. What the shared operations of the units do, once for each: the rotator bit by bit (43_key_schedule.md R153), the
permutation unit and the rotator on a complement, a slice as a quotient, and a step of the Feistel core undone
(44_feistel_core.md R171). -/

namespace Sys2Proof.Machine

open Config (Tsel)

/-- What the rotator does, bit by bit (R153). -/
theorem blockBit_rotl28 (h : KeyHalf) (s : Nat) {j : Nat} (h1 : 1 ≤ j) (h28 : j ≤ 28) :
    blockBit (rotl28 h s) j = blockBit h ((j - 1 + s) % 28 + 1) := by
  have hj : j - 1 < 28 := by omega
  simp only [blockBit, rotl28, BitVec.getMsbD_rotateLeft]
  simp [hj]
  congr 1
  omega

/-- Two rotations are one by the sum. -/
theorem rotl28_rotl28 (h : KeyHalf) (a b : Nat) : rotl28 (rotl28 h a) b = rotl28 h (a + b) := by
  apply block_ext
  intro i h1 h28
  rw [blockBit_rotl28 _ _ h1 h28, blockBit_rotl28 _ _ (by omega) (by omega), blockBit_rotl28 _ _ h1 h28]
  congr 1
  omega

/-- The rotator commutes with the complement. -/
theorem rotl28_not (h : KeyHalf) (s : Nat) : rotl28 (~~~h) s = ~~~rotl28 h s := by
  apply block_ext
  intro i h1 h28
  rw [blockBit_not _ h1 h28, blockBit_rotl28 _ _ h1 h28, blockBit_rotl28 _ _ h1 h28, blockBit_not _ (by omega) (by omega)]

/-- The permutation unit commutes with the complement, for a table whose positions lie in its input (R213). -/
theorem permuteBlock_not {n m : Nat} (t : Tsel) (x : BitVec n) (hm : m ≤ 64)
    (ht : ∀ i < m, 1 ≤ (tables.table t).getD i 0 ∧ (tables.table t).getD i 0 ≤ n) :
    permuteBlock t m (~~~x) = ~~~permuteBlock t m x := by
  apply block_ext
  intro i h1 hi
  rw [blockBit_not _ h1 hi, blockBit_permuteBlock _ _ h1 hi hm, blockBit_permuteBlock _ _ h1 hi hm,
    blockBit_not _ (ht (i - 1) (by omega)).1 (ht (i - 1) (by omega)).2]

/-- A slice of a block, as a number (R11, R12). -/
theorem blockSlice_toNat {n : Nat} (x : BitVec n) (i j : Nat) :
    (blockSlice x i j).toNat = x.toNat / 2 ^ (n - j) % 2 ^ (j - i + 1) := by
  simp [blockSlice, BitVec.extractLsb'_toNat, Nat.shiftRight_eq_div_pow]

/-- The step on the exchanged pair undoes a step (R171). -/
theorem feistelStep_undo (k : RoundKey) (p : Half × Half) :
    (feistelStep k ((feistelStep k p).2, (feistelStep k p).1)) = (p.2, p.1) := by
  simp [feistelStep]

end Sys2Proof.Machine
end

