-- ==== Sys2Proof/Machine/Asm.lean ====
section
/-! DEFINITION. The notation in which a host's command sequence is written (30_encoding.md R86): a line, the transfer it
stands for, and its text. It is beside the machine, which sees transfers only. -/

namespace Sys2Proof.Machine

/-- A line of a command sequence (R86): a command with its length, 64 where none is written, or a raw word. -/
inductive AsmLine where
  | setkey (len : Option Len) (data : Block)
  | encrypt (len : Option Len) (data : Block)
  | decrypt (len : Option Len) (data : Block)
  | word (w : CmdWord) (data : Block)
  deriving DecidableEq, Repr

/-- The transfer that a line stands for (R86, R87: the word is `LEN` above `OP`). -/
def AsmLine.transfer : AsmLine → Transfer
  | .setkey len x => encode (.setkey (len.getD 64) x)
  | .encrypt len x => encode (.encrypt (len.getD 64) x)
  | .decrypt len x => encode (.decrypt (len.getD 64) x)
  | .word w x => .command w x

/-- A hex digit. -/
def hexDigit (d : BitVec 4) : Char :=
  ['0', '1', '2', '3', '4', '5', '6', '7', '8', '9', 'A', 'B', 'C', 'D', 'E', 'F'].getD d.toNat '0'

/-- `0x` and the `n` hex digits of a value, the first bits first (R12). -/
def hexText {w : Nat} (n : Nat) (x : BitVec w) : List Char :=
  '0' :: 'x' :: (List.range n).map fun i => hexDigit (x.extractLsb' (4 * (n - 1 - i)) 4)

/-- A length in decimal. -/
def lenText (l : Len) : List Char :=
  let d (k : Nat) : Char := hexDigit (BitVec.ofNat 4 (k % 10))
  if l.toNat < 10 then [d l.toNat]
  else if l.toNat < 100 then [d (l.toNat / 10), d l.toNat]
  else [d (l.toNat / 100), d (l.toNat / 10), d l.toNat]

/-- A command's operands as written (R86): the length where one is given, then the data. -/
def operandText (len : Option Len) (x : Block) : List Char :=
  match len with
  | none => hexText 16 x
  | some l => ['l', 'e', 'n', '='] ++ lenText l ++ [',', ' '] ++ hexText 16 x

/-- A line as written (R86), as its characters. -/
def AsmLine.text : AsmLine → List Char
  | .setkey len x => ['S', 'E', 'T', 'K', 'E', 'Y', ' '] ++ operandText len x
  | .encrypt len x => ['E', 'N', 'C', 'R', 'Y', 'P', 'T', ' '] ++ operandText len x
  | .decrypt len x => ['D', 'E', 'C', 'R', 'Y', 'P', 'T', ' '] ++ operandText len x
  | .word w x => ['.', 'w', 'o', 'r', 'd', ' '] ++ hexText 4 w ++ [',', ' '] ++ hexText 16 x

end Sys2Proof.Machine
end

