-- ==== Sys2Proof/Tests/Slice0.lean ====
section
/-! SUPPORT. Tests of single steps against values of spec/ (95_test_vectors.md, and the encodings of 30_encoding.md and
41_sbox.md), and for each statement with hypotheses a witness that meets them. -/

namespace Sys2Proof.Tests

open Sys2Proof.Machine
open Config (Tsel Dir)

/-- The state that an outcome answers. -/
def after : Host.Outcome State Fault Refusal → Option State
  | .next s => some s
  | .fault _ => none
  | .refused _ => none

/-- The response of the state that an outcome answers. -/
def response (o : Host.Outcome State Fault Refusal) : Option (ErrCode × Block) :=
  (after o).map fun s => (s.rspErr, s.rspData)

/-- What an outcome's state has on the units' output. -/
def shown (o : Host.Outcome State Fault Refusal) : Option UnitOut := (after o).map State.out

/-- The key of the known-answer vector (95_test_vectors.md L1.1). -/
def katKey : Block := 0x133457799BBCDFF1

/-- Its round keys, copied from 95_test_vectors.md L2.5. -/
def katKeys : Vector RoundKey 16 :=
  #v[0x1B02EFFC7072, 0x79AED9DBC9E5, 0x55FC8A42CF99, 0x72ADD6DB351D, 0x7CEC07EB53A8, 0x63A53E507B2F, 0xEC84B7F618BC,
     0xF78A3AC13BFB, 0xE0DBEBEDE781, 0xB1F347BA464F, 0x215FD3DED386, 0x7571F59467E9, 0x97C5D1FABA41, 0x5F43B7F2E73A,
     0xBF918D3D3F0A, 0xCB3D8B0E17F5]

/-- The start state K0 of 95_test_vectors.md L2.11. -/
def fresh : State := State.reset

/-- The start state K1 of 95_test_vectors.md L2.11. -/
def loaded : State := { State.reset with rk := katKeys, keyValid := true }

/-- The start state CF of 95_test_vectors.md L2.11, which CORE never is in. -/
def faulty : State := { State.reset with cfgFault := true }

/-- A state with something presented. -/
def presenting (s : State) (es : List Event) : State := { s with drive := es }

/-- A command on the port (30_encoding.md R70). -/
def portCmd (w : CmdWord) (x : Block) : PortIn := ⟨false, true, w, x⟩

/-- A cycle in which the host presents nothing. -/
def portIdle : PortIn := ⟨false, false, 0, 0⟩

/-! ### Well-formedness: one ill-formed term for each check -/

theorem test_wf_rejects_reserved_zero : ¬(Instr.illegalRsvd 0 64 1 0).WellFormed := by decide

theorem test_wf_accepts_reserved_nonzero : (Instr.illegalRsvd 1 64 1 0).WellFormed := by decide

theorem test_wf_rejects_wide_permute : ¬(Instr.permute .e 0x100000000).WellFormed := by decide

theorem test_wf_accepts_full_permute : (Instr.permute .pc2 0xFFFFFFFFFFFFFF).WellFormed := by decide

theorem test_wf_rejects_wide_select : ¬(Transfer.psel 6 0x100000000).WellFormed := by decide

theorem test_wf_rejects_wide_select_pc2 : ¬(Transfer.psel 5 0x100000000000000).WellFormed := by decide

theorem test_wf_accepts_select : (Transfer.psel 7 0xFFFFFFFF).WellFormed := by decide

theorem test_wf_rejects_wide_fixed : ¬(Transfer.fixed (.permute .p 0x100000000)).WellFormed := by decide

/-! ### Decoding: words written out from the spec's formats -/

/-- 30_encoding.md R71, R87: `RSVD` 0000000, `LEN` 1000000 (64), `OP`. -/
theorem test_decode_commands :
    decodeCommand 0b0000000100000000 5 = .decrypt 64 5 ∧ decodeCommand 0b0000000100000001 5 = .encrypt 64 5 ∧
    decodeCommand 0b0000000100000010 5 = .setkey 64 5 ∧ decodeCommand 0b0000000100000011 5 = .illegalOp3 64 5 ∧
    decodeCommand 0b0000001100000001 5 = .illegalRsvd 1 64 1 5 := by decide

/-- 95_test_vectors.md L2.11. -/
theorem test_decode_edges :
    decodeCommand 0x0000 7 = .decrypt 0 7 ∧ decodeCommand 0x01FE 7 = .setkey 127 7 ∧
    decodeCommand 0x01FF 7 = .illegalOp3 127 7 ∧ decodeCommand 0x0200 7 = .illegalRsvd 1 0 0 7 ∧
    decodeCommand 0x8101 7 = .illegalRsvd 64 64 1 7 ∧ decodeCommand 0xFFFF 7 = .illegalRsvd 127 127 3 7 := by decide

/-- 30_encoding.md R80: the eight selects, three bits each. -/
theorem test_decode_selects :
    decodePsel 0b000 9 = .permIpL 9 ∧ decodePsel 0b001 9 = .permIpR 9 ∧ decodePsel 0b010 9 = .permFp 9 ∧
    decodePsel 0b011 9 = .permPc1C 9 ∧ decodePsel 0b100 9 = .permPc1D 9 ∧ decodePsel 0b101 9 = .permPc2 9 ∧
    decodePsel 0b110 9 = .permE 9 ∧ decodePsel 0b111 9 = .permP 9 := by decide

/-- 30_encoding.md R81, 95_test_vectors.md L2.2: box, row, column, for the eight lookups of the known-answer round 1. -/
theorem test_decode_addresses :
    decodeSaddr 0b000001100 = .sboxS1 0b011000 ∧ decodeSaddr 0b001011000 = .sboxS2 0b010001 ∧
    decodeSaddr 0b010001111 = .sboxS3 0b011110 ∧ decodeSaddr 0b011101101 = .sboxS4 0b111010 ∧
    decodeSaddr 0b100110000 = .sboxS5 0b100001 ∧ decodeSaddr 0b101100011 = .sboxS6 0b100110 ∧
    decodeSaddr 0b110001010 = .sboxS7 0b010100 ∧ decodeSaddr 0b111110011 = .sboxS8 0b100111 := by decide

/-- The rows without an encoding go by name (log entry 3). -/
theorem test_decode_fixed :
    decode (.fixed (.sbox 0b011000 0)) = .sbox 0b011000 0 ∧ decode (.fixed (.permute .e 3)) = .permute .e 3 ∧
    decode (.fixed (.subst32 3)) = .subst32 3 ∧ decode (.fixed (.roundf 3 4)) = .roundf 3 4 ∧
    decode (.fixed (.keysched 3)) = .keysched 3 ∧ decode (.fixed (.ksSplit 3)) = .ksSplit 3 ∧
    decode (.fixed (.rot28 15)) = .rot28 15 ∧ decode (.fixed (.ksRound 15)) = .ksRound 15 ∧
    decode (.fixed .ksCompress) = .ksCompress ∧ decode (.fixed (.feistel 3 .decrypt)) = .feistel 3 .decrypt ∧
    decode (.fixed (.feistelRound 15)) = .feistelRound 15 ∧ decode (.fixed (.rksel 15 .encrypt)) = .rksel 15 .encrypt := by
  decide

/-- A table word with its operand above it, and words of no format of the table. -/
theorem test_decode_table_words :
    decodeTableWord 80 0x133457799BBCDFF10102 = some (.setkey 64 0x133457799BBCDFF1) ∧
    decodeTableWord 9 0b111110011 = some (.sboxS8 0b100111) ∧ decodeTableWord 3 6 = some (.permE 0) ∧
    decodeTableWord 8 8 = none ∧ decodeTableWord 12 0 = none := by decide

/-- The machine runs what `withFetchWord` places, right after reset. -/
theorem test_fetch_word :
    response (step (State.reset.withFetchWord 16 0x0103)) = some (4, 0) ∧
    response (step (State.reset.withFetchWord 80 0xFFFFFFFFFFFFFFFF0101)) = some (2, 0) ∧
    shown (step (State.reset.withFetchWord 9 0b111110011)) = some (.w4 7) := by decide

/-! ### The permutation unit (95_test_vectors.md L2.1) -/

theorem test_perm_block_rows :
    shown (exec (.permIpL 0x0123456789ABCDEF) fresh) = some (.w32 0xCC00CCFF) ∧
    shown (exec (.permIpL 1) fresh) = some (.w32 0x00000080) ∧
    shown (exec (.permIpR 0x0123456789ABCDEF) fresh) = some (.w32 0xF0AAF0AA) ∧
    shown (exec (.permIpR 0x8000000000000000) fresh) = some (.w32 0x01000000) ∧
    shown (exec (.permFp 0x0123456789ABCDEF) fresh) = some (.w64 0xFF330FAA00330FAA) := by decide +kernel

theorem test_perm_key_rows :
    shown (exec (.permPc1C 0x133457799BBCDFF1) fresh) = some (.w28 0xF0CCAAF) ∧
    shown (exec (.permPc1D 0x133457799BBCDFF1) fresh) = some (.w28 0x556678F) ∧
    shown (exec (.permPc2 0x0123456789ABCD) fresh) = some (.w48 0x3080E8BB7549) ∧
    shown (exec (.permPc2 1) fresh) = some (.w48 0x000000000100) ∧
    shown (exec (.permute .pc2 0x80000000000000) fresh) = some (.w48 0x080000000000) := by decide +kernel

/-- E and P, and the stages of the known-answer round 1 (95_test_vectors.md L2.2, L2.3, L2.6). -/
theorem test_perm_round_rows_and_roundf :
    shown (exec (.permE 0x01234567) fresh) = some (.w48 0x802906A0AB0E) ∧
    shown (exec (.permE 0x80000000) fresh) = some (.w48 0x400000000001) ∧
    shown (exec (.permP 0x01234567) fresh) = some (.w32 0x80566C2C) ∧
    shown (exec (.permute .p 0x5C82B597) fresh) = some (.w32 0x234AA9BB) ∧
    shown (exec (.subst32 0x6117BA866527) fresh) = some (.w32 0x5C82B597) ∧
    shown (exec (.subst32 0) fresh) = some (.w32 0xEFA72C4D) ∧
    shown (exec (.roundf 0xF0AAF0AA 0x1B02EFFC7072) fresh) = some (.w32 0x234AA9BB) := by decide +kernel

/-! ### The S-box array (95_test_vectors.md L2.2) -/

theorem test_sboxS1 : shown (exec (.sboxS1 0b011000) fresh) = some (.w4 5) := by decide

theorem test_sboxS2 : shown (exec (.sboxS2 0b010001) fresh) = some (.w4 12) := by decide

theorem test_sboxS3 : shown (exec (.sboxS3 0b011110) fresh) = some (.w4 8) := by decide

theorem test_sboxS4 : shown (exec (.sboxS4 0b111010) fresh) = some (.w4 2) := by decide

theorem test_sboxS5 : shown (exec (.sboxS5 0b100001) fresh) = some (.w4 11) := by decide

theorem test_sboxS6 : shown (exec (.sboxS6 0b100110) fresh) = some (.w4 5) := by decide

theorem test_sboxS7 : shown (exec (.sboxS7 0b010100) fresh) = some (.w4 9) := by decide

theorem test_sboxS8 : shown (exec (.sboxS8 0b100111) fresh) = some (.w4 7) := by decide

/-- The six corner groups of each box. -/
theorem test_sbox_corners :
    [0b000000, 0b000001, 0b100000, 0b100001, 0b011110, 0b111111].map (fun g => sboxLookup g 0) = [14, 0, 4, 15, 7, 13] ∧
    [0b000000, 0b000001, 0b100000, 0b100001, 0b011110, 0b111111].map (fun g => sboxLookup g 3) = [7, 13, 10, 3, 15, 14] ∧
    [0b000000, 0b000001, 0b100000, 0b100001, 0b011110, 0b111111].map (fun g => sboxLookup g 7) = [13, 1, 7, 2, 7, 11] := by
  decide

theorem test_sbox : shown (exec (.sbox 0b111111 5) fresh) = some (.w4 13) := by decide

/-! ### The key schedule (95_test_vectors.md L2.4, L2.5) -/

theorem test_rotl28 :
    rotl28 0x8000000 1 = 1 ∧ rotl28 0xC000000 2 = 3 ∧ rotl28 0xF0CCAAF 1 = 0xE19955F ∧ rotl28 0xF0CCAAF 28 = 0xF0CCAAF ∧
    rotl28 0xF0CCAAF 29 = 0xE19955F := by decide

/-- Round 2 rotates by two, round 15 by one (95_test_vectors.md L2.5). -/
theorem test_rot28 :
    (after (exec (.rot28 2) { fresh with c := 0xC332ABF, d := 0x5599E3D })).map (fun s => (s.c, s.d)) =
      some (0x0CCAAFF, 0x56678F5) ∧
    (after (exec (.rot28 15) { fresh with c := 0xF866557, d := 0xAAB33C7 })).map (fun s => (s.c, s.d)) =
      some (0xF0CCAAF, 0x556678F) := by decide

theorem test_key_schedule_rows :
    (after (exec (.ksSplit katKey) fresh)).map (fun s => (s.c, s.d)) = some (0xF0CCAAF, 0x556678F) ∧
    (after (exec (.ksRound 2) { fresh with c := 0xC332ABF, d := 0x5599E3D })).map (fun s => (s.c, s.d, s.out)) =
      some (0x0CCAAFF, 0x56678F5, .w48 0x55FC8A42CF99) ∧
    shown (exec .ksCompress { fresh with c := 0xE19955F, d := 0xAACCF1E }) = some (.w48 0x1B02EFFC7072) ∧
    (after (exec (.keysched katKey) fresh)).map (fun s => (s.out, s.c, s.d)) =
      some (.keys katKeys, 0xF0CCAAF, 0x556678F) := by
  decide +kernel

/-! ### The Feistel core (95_test_vectors.md L2.7) -/

theorem test_rksel :
    shown (exec (.rksel 0 .encrypt) loaded) = some (.w48 0x1B02EFFC7072) ∧
    shown (exec (.rksel 0 .decrypt) loaded) = some (.w48 0xCB3D8B0E17F5) := by decide

/-- A step in each direction (step 1 of the decryption uses the last round key), and the whole transform. -/
theorem test_feistel_rows :
    (after (exec (.feistelRound 1) { loaded with l := 0xF0AAF0AA, r := 0xEF4A6544, fcDir := .encrypt })).map
      (fun s => (s.l, s.r)) = some (0xEF4A6544, 0xCC017709) ∧
    (after (exec (.feistelRound 0) { loaded with l := 0x0A4CD995, r := 0x43423234, fcDir := .decrypt })).map
      (fun s => (s.l, s.r)) = some (0x43423234, 0xC28C960D) ∧
    (after (exec (.feistel 0x0123456789ABCDEF .encrypt) loaded)).map (fun s => (s.l, s.r, s.out)) =
      some (0x43423234, 0x0A4CD995, .w64 0x85E813540F0AB405) := by decide +kernel

/-- With no key loaded the rows that read `RK` run all the same: a pair of zeros goes to a pair whose left half is zero, and
FEISTEL leaves `KEY_VALID` at 0 (44_feistel_core.md R171, R170). -/
theorem test_feistel_no_key :
    (after (exec (.feistelRound 15) fresh)).map State.l = some 0 ∧
    (after (exec (.feistel 0 .encrypt) fresh)).map State.keyValid = some false := ⟨rfl, rfl⟩

/-! ### The commands (95_test_vectors.md L1.1, L1.4, L2.11) -/

theorem test_commands :
    response (exec (.encrypt 64 0x0123456789ABCDEF) loaded) = some (0, 0x85E813540F0AB405) ∧
    response (exec (.decrypt 64 0x0123456789ABCDEF) loaded) = some (0, 0xEE0F7C12E0B09338) ∧
    (after (exec (.setkey 64 katKey) fresh)).map (fun s => (s.rk, s.keyValid, s.rspErr, s.rspData, statusWord s)) =
      some (katKeys, true, 0, 0, 1) := by decide +kernel

theorem test_encrypt_errors :
    response (exec (.encrypt 64 0x0123456789ABCDEF) fresh) = some (2, 0) ∧
    response (exec (.encrypt 65 0x0123456789ABCDEF) fresh) = some (1, 0) ∧
    response (exec (.encrypt 63 0x0123456789ABCDEF) loaded) = some (1, 0) ∧
    response (exec (.encrypt 64 0x0123456789ABCDEF) faulty) = some (3, 0) := by decide

theorem test_decrypt_errors :
    response (exec (.decrypt 64 0x0123456789ABCDEF) fresh) = some (2, 0) ∧
    response (exec (.decrypt 65 0x0123456789ABCDEF) loaded) = some (1, 0) ∧
    response (exec (.decrypt 64 0x0123456789ABCDEF) faulty) = some (3, 0) := by decide

theorem test_setkey_errors :
    (after (exec (.setkey 63 katKey) fresh)).map (fun s => (s.keyValid, s.rspErr)) = some (false, 1) ∧
    (after (exec (.setkey 64 katKey) faulty)).map (fun s => (s.keyValid, s.rspErr)) = some (false, 3) ∧
    (after (exec (.setkey 65 0) loaded)).map (fun s => (s.rk, s.keyValid, s.rspErr)) = some (katKeys, true, 1) := by
  decide

/-- Illegal outranks length, and the configuration outranks illegal. -/
theorem test_illegalOp3 :
    response (exec (.illegalOp3 0 0x0123456789ABCDEF) loaded) = some (4, 0) ∧
    response (exec (.illegalOp3 64 0x0123456789ABCDEF) faulty) = some (3, 0) := by decide

theorem test_illegalRsvd :
    response (exec (.illegalRsvd 127 127 3 0x0123456789ABCDEF) loaded) = some (4, 0) ∧
    response (exec (.illegalRsvd 127 127 3 0x0123456789ABCDEF) faulty) = some (3, 0) := by decide

/-- The STATUS values of 95_test_vectors.md L2.11. -/
theorem test_status :
    statusWord fresh = 0 ∧ statusWord loaded = 1 ∧ statusWord (loaded.accept 0x0101 0) = 3 ∧
    statusWord (fresh.accept 0x0101 0) = 2 ∧ statusWord faulty = 4 := by decide

/-- The table check passes the standard tables and finds a table that is too short, a position out of range, and a shift list
that is too short (60_exceptions.md R213). -/
theorem test_table_check :
    checkTables tables = true ∧ checkTables { tables with p := tables.p.drop 1 } = false ∧
    checkTables { tables with pc2 := 57 :: tables.pc2.drop 1 } = false ∧
    checkTables { tables with e := 0 :: tables.e.drop 1 } = false ∧
    checkTables { tables with shifts := tables.shifts.drop 1 } = false := by decide

/-! ### The step -/

theorem test_step_reset_wins :
    step { loaded with busy := true, cmdLatch := 0x0101, drive := [.reset, .present (.saddr 0)] } =
      .next { State.reset with drive := [.present (.saddr 0)] } := rfl

theorem test_step_command :
    (after (step (presenting fresh [.present (.command 0x0103 5)]))).map
      (fun s => (s.rspErr, s.rspValid, s.busy, s.drive)) = some (4, true, false, []) ∧
    (after (step (presenting fresh [.present (.command 0x0103 5)]))).map (fun s => (s.cmdLatch, s.dataLatch)) =
      some (0x0103, 5) := by decide

/-! ### The port, cycle by cycle (95_test_vectors.md P1) -/

theorem test_clock_accepts :
    (after (clock (portCmd 0x0101 5) false loaded)).map (fun s => (statusWord s, cmdReady false s, s.rspValid)) =
      some (3, false, false) := by decide

theorem test_clock_completes :
    (after (clock portIdle true (loaded.accept 0x0105 5))).map (fun s => (statusWord s, s.rspValid, s.rspErr, s.rspData)) =
      some (1, true, 1, 0) := by decide

/-! ### The notation of command sequences (30_encoding.md R86, R87) -/

theorem test_asm_words :
    (AsmLine.decrypt none 5).transfer = .command 0x0100 5 ∧ (AsmLine.setkey (some 63) 5).transfer = .command 0x00FE 5 ∧
    (AsmLine.encrypt (some 65) 5).transfer = .command 0x0105 5 ∧ (AsmLine.word 0x0301 5).transfer = .command 0x0301 5 := by
  decide

theorem test_asm_text :
    (AsmLine.setkey (some 63) katKey).text = "SETKEY len=63, 0x133457799BBCDFF1".toList ∧
    (AsmLine.encrypt none 0x0123456789ABCDEF).text = "ENCRYPT 0x0123456789ABCDEF".toList ∧
    (AsmLine.word 0x0103 0x0123456789ABCDEF).text = ".word 0x0103, 0x0123456789ABCDEF".toList := by
  refine ⟨?_, ?_, ?_⟩ <;> rfl

/-! ### Witnesses: for each statement with hypotheses, a state and operands that meet all of them together -/

/-- A key whose parity bits alone differ from the known-answer key's (95_test_vectors.md L2.10). -/
def katKeyOddParity : Block := 0x123456789ABCDEF0

/-- The acceptance of a command and then seventeen cycles in which nothing is presented. -/
def seventeenIdle : List PortIn := List.replicate 17 portIdle

/-- The known-answer key's schedule (95_test_vectors.md L2.5). -/
theorem katKeys_eq : katKeys = keySchedule katKey := by decide +kernel

theorem witness_DecodeOfEncodeIsIdentity :
    (Instr.illegalRsvd 127 127 3 1).WellFormed ∧ (Instr.permute .pc2 0xFFFFFFFFFFFFFF).WellFormed ∧
    (Instr.permute .ipL 0xFFFFFFFFFFFFFFFF).WellFormed ∧ (Instr.permE 0xFFFFFFFF).WellFormed ∧
    (Instr.sboxS8 63).WellFormed ∧ (Instr.setkey 64 1).WellFormed := by decide

theorem witness_EncodeOfDecodeIsIdentity :
    (Transfer.command 0xFFFF 1).WellFormed ∧ (Transfer.psel 5 0xFFFFFFFFFFFFFF).WellFormed ∧
    (Transfer.psel 6 0xFFFFFFFF).WellFormed ∧ (Transfer.saddr 511).WellFormed ∧
    (Transfer.fixed (.permute .e 0xFFFFFFFF)).WellFormed := by decide

theorem witness_StepRunsPresentedTransfer :
    (presenting fresh [.present (.command 0x0102 7)]).busy = false ∧
    (presenting fresh [.present (.saddr 12)]).drive = .present (.saddr 12) :: [] ∧
    tableTransfer 16 0x0102 = some (.command 0x0102 0) ∧ tableTransfer 8 7 = some (.psel 7 0) ∧
    tableTransfer 9 511 = some (.saddr 511) := by decide

theorem witness_StepCompletesCommandInProgress :
    (loaded.accept 0x0101 7).busy = true ∧ ∀ rest, (loaded.accept 0x0101 7).drive ≠ .reset :: rest :=
  ⟨rfl, fun _ h => nomatch h⟩

theorem witness_StepTakesResetAndIdles :
    (presenting loaded [.reset]).drive = .reset :: [] ∧ loaded.drive = [] ∧ loaded.busy = false := by decide

theorem witness_GenericPermuteRow :
    fitsIn (Tsel.nIn .e) 0xFFFFFFFF ∧ fitsIn (Tsel.nIn .pc2) 0xFFFFFFFFFFFFFF ∧
    fitsIn (Tsel.nIn .ipL) 0xFFFFFFFFFFFFFFFF := by decide

/-- A kept position at each end, an omitted one and a kept one beside it. -/
theorem witness_CompressionAndExpansionPositions :
    1 ∉ [9, 18, 22, 25, 35, 38, 43, 54] ∧ 56 ∉ [9, 18, 22, 25, 35, 38, 43, 54] ∧ 9 ∈ [9, 18, 22, 25, 35, 38, 43, 54] ∧
    8 ∉ [9, 18, 22, 25, 35, 38, 43, 54] := by decide

/-- The first and the last lane. -/
theorem witness_SubstitutionRow :
    sboxLookup (BitVec.ofNat 6 (0x6117BA866527 / 2 ^ (42 - 6 * 0))) 0 = 5 ∧
    sboxLookup (BitVec.ofNat 6 (0x6117BA866527 / 2 ^ (42 - 6 * 7))) 7 = 7 := by decide

/-- The first bit, the last, and the last round. -/
theorem witness_KeyHalvesRows :
    blockBit (rotl28 0x4000000 (shiftAmount 0)) 1 = true ∧ blockBit (rotl28 0x8000000 (shiftAmount 15)) 28 = true := by
  decide

theorem witness_ParityBitsIgnored :
    (∀ i ∈ List.range' 1 64, i % 8 ≠ 0 → blockBit katKey i = blockBit katKeyOddParity i) ∧ katKey ≠ katKeyOddParity ∧
    fresh.cfgFault = false := by decide

/-- The first and the last key differ, so the two directions do. -/
theorem witness_RoundKeySelectorRow : rkIndex 0 .encrypt = 0 ∧ rkIndex 0 .decrypt = 15 ∧ katKeys[0] ≠ katKeys[15] := by decide

/-- The pair after step 1 of the known-answer vector and the pair with bit 1 of `R` flipped (95_test_vectors.md L1.7). -/
theorem witness_SequentialDependency :
    (0xF0AAF0AA, 0xEF4A6544) ≠ ((0xF0AAF0AA, 0x6F4A6544) : Half × Half) := by decide

/-- A state for each path of `EncryptRow` and `DecryptRow`, and for those of `SetkeyRow`. -/
theorem witness_EncryptRow :
    loaded.cfgFault = false ∧ loaded.keyValid = true ∧ fresh.keyValid = false ∧ faulty.cfgFault = true := by decide

theorem witness_IllegalRows :
    (0x0003 : CmdWord).toNat % 4 = 3 ∧ (0x0200 : CmdWord).toNat / 512 ≠ 0 ∧ (0xFFFF : CmdWord).toNat / 512 ≠ 0 := by decide

/-- Each branch: a legal word at each operation, a reserved bit, an illegal operation, a wrong length. -/
theorem witness_WholeCommandStep :
    (0x0102 : CmdWord).toNat % 4 = 2 ∧
    (0x0102 : CmdWord).toNat / 4 % 128 = 64 ∧ (0x0101 : CmdWord).toNat % 4 = 1 ∧ (0x0100 : CmdWord).toNat % 4 = 0 ∧
    (0x8101 : CmdWord).toNat / 512 ≠ 0 ∧ (0x0103 : CmdWord).toNat % 4 = 3 ∧ (0x00FD : CmdWord).toNat / 4 % 128 ≠ 64 := by
  decide

theorem witness_FailuresChangeOnlyTheResponse :
    (Instr.encrypt 64 5).isCommand = true ∧ exec (.encrypt 64 5) fresh = .next (fresh.failed 2) ∧
    (fresh.failed 2).rspErr ≠ 0 := ⟨rfl, rfl, by decide⟩

theorem witness_ConfigurationFaultFailsEveryCommand :
    (Instr.setkey 64 katKey).isCommand = true ∧ faulty.cfgFault = true ∧ (Instr.illegalRsvd 1 0 0 0).isCommand = true :=
  ⟨rfl, rfl, rfl⟩

theorem witness_OperandIgnoredOnFailure :
    exec (decodeCommand 0x0105 5) loaded = .next (loaded.failed 1) ∧ (loaded.failed 1).rspErr ≠ 0 := ⟨rfl, by decide⟩

/-- A length that is not 64 in one clause, a configuration fault in the other, and a SETKEY that changes the keys. -/
theorem witness_OnlySetkeyChangesKeys :
    ((63 : Len) ≠ 64 ∨ fresh.cfgFault = true) ∧ ((64 : Len) ≠ 64 ∨ faulty.cfgFault = true) ∧ fresh.cfgFault = false ∧
    exec (.setkey 64 katKey) fresh = .next ((fresh.runSchedule katKey).commitKeys.respond .ok 0) :=
  ⟨by decide, by decide, by decide, rfl⟩

theorem witness_KeyValidLifecycle :
    (presenting fresh [.present (.command 0x0102 katKey)]).cfgFault = false ∧
    (presenting fresh [.present (.command 0x0102 katKey)]).busy = false ∧
    step (presenting fresh [.present (.command 0x0102 katKey)]) =
      .next (((fresh.accept 0x0102 katKey).runSchedule katKey).commitKeys.respond .ok 0) ∧
    (presenting loaded [.reset]).cfgFault = false ∧ (presenting loaded [.reset]).busy = false ∧
    step (presenting loaded [.reset]) = .next fresh := ⟨by decide, rfl, rfl, by decide, rfl, rfl⟩

theorem witness_CfgFaultConstant :
    step (presenting faulty [.reset]) = .next fresh ∧ step faulty = .next faulty.quiet ∧ faulty.drive = [] :=
  ⟨rfl, rfl, rfl⟩

theorem witness_InternalRowsInvisibleToHost :
    (Instr.ksSplit katKey).isCommand = false ∧ exec (.ksSplit katKey) loaded = .next (loaded.splitKey katKey) :=
  ⟨rfl, rfl⟩

theorem witness_TransientsDoNotReachHost :
    (presenting loaded [.present (.command 0x0101 5)]).busy = false ∧
    (presenting loaded [.present (.command 0x0101 5)]).AgreeButTransients
      { presenting loaded [.present (.command 0x0101 5)] with l := 7, c := 9, cmdLatch := 3 } := by decide

theorem witness_RepeatedCommandsAgree :
    execCrypt .encrypt 64 0x0123456789ABCDEF fresh = .next (fresh.failed 2) ∧
    exec (.setkey 64 0) faulty = .next (faulty.failed 3) ∧
    exec (.setkey 64 katKey) fresh = .next ((fresh.runSchedule katKey).commitKeys.respond .ok 0) := ⟨rfl, rfl, rfl⟩

/-- A successful encryption, which the first clause repeats. -/
theorem witness_RepeatedCommandsAgree_success :
    execCrypt .encrypt 64 5 loaded = .next ((loaded.runFeistel .encrypt 5).respond .ok (feistel katKeys .encrypt 5)) := rfl

theorem witness_RoundTripThroughCommands : fresh.cfgFault = false ∧ loaded.cfgFault = false := by decide

theorem witness_KnownAnswer : State.reset.cfgFault = false := by decide

theorem witness_SelfReverseScheduleIsInvolution :
    ∀ j : Fin 16, (Vector.replicate 16 (0 : RoundKey))[j] = (Vector.replicate 16 (0 : RoundKey))[j.rev] := by decide

/-- A SETKEY, a refused SETKEY and an illegal word, and a command of each direction. -/
theorem witness_LastLoadedKeyIsUsed :
    loaded.cfgFault = false ∧ loaded.busy = false ∧
    (∀ c ∈ [((0x00FE : CmdWord), (6 : Block)), (0x0103, 0)], c.1 ≠ 0x0102) ∧
    (∀ w ∈ [(0x0101 : CmdWord), 0x0100],
      (presenting loaded [.present (.command 0x0102 5), .present (.command 0x00FE 6), .present (.command 0x0103 0),
        .present (.command w 7), .reset]).drive =
      .present (.command 0x0102 5) :: ([((0x00FE : CmdWord), (6 : Block)), (0x0103, 0)].map
        (fun c => Event.present (.command c.1 c.2)) ++ .present (.command w 7) :: [.reset])) :=
  ⟨by decide, rfl, by simp, fun _ _ => rfl⟩

/-- A state with a key and one without, each of which meets the invariant and has a next state. -/
theorem witness_EveryStepKeepsInv :
    (presenting fresh [.present (.command 0x0103 5)]).Inv ∧
    step (presenting fresh [.present (.command 0x0103 5)]) = .next ((fresh.accept 0x0103 5).failed 4) ∧
    (loaded.accept 0x0103 5).Inv ∧ step (loaded.accept 0x0103 5) = .next ((loaded.accept 0x0103 5).failed 4) :=
  ⟨⟨fun h => Bool.noConfusion h, fun _ => rfl, by decide⟩, rfl, ⟨fun _ => ⟨katKey, katKeys_eq⟩, fun h => Bool.noConfusion h, by decide⟩, rfl⟩

theorem witness_HostCommandsAlwaysComplete :
    (presenting fresh [.present (.command 0x0101 5), .reset]).HostDriven ∧
    (presenting fresh [.present (.command 0x0101 5), .reset]).busy = false ∧ (fresh.accept 0x0101 5).HostDriven ∧
    (fresh.accept 0x0101 5).busy = true ∧ (fresh.accept 0x0101 5).drive = [] := by decide

theorem witness_IterativeSetkeyIsAtomic :
    fresh.busy = false ∧ fresh.cfgFault = false ∧ portCmd 0x0102 katKey = ⟨false, true, 0x0102, katKey⟩ ∧
    seventeenIdle.length = 17 ∧ (∀ q ∈ seventeenIdle, q.rst = false) := by decide

/-- The counter's clause at both ends of its range, for each engine. -/
theorem witness_IterativeCounters :
    (iterRun ((portCmd 0x0102 katKey :: seventeenIdle).take 1) fresh).ksN = 0 ∧
    (iterRun ((portCmd 0x0102 katKey :: seventeenIdle).take 17) fresh).ksN = 16 ∧
    (iterRun ((portCmd 0x0102 katKey :: seventeenIdle).take 17) fresh).busy = true ∧
    (iterRun ((portCmd 0x0101 5 :: seventeenIdle).take 1) loaded).fcN = 0 ∧
    (iterRun ((portCmd 0x0101 5 :: seventeenIdle).take 17) loaded).fcN = 16 ∧
    (iterRun ((portCmd 0x0101 5 :: seventeenIdle).take 17) loaded).busy = true := by decide

/-- The two directions' words with a loaded key, and what the iterative machine then does. -/
theorem witness_IterativeCryptIsAtomic :
    loaded.cfgFault = false ∧ loaded.keyValid = true ∧ loaded.busy = false ∧ seventeenIdle.length = 17 ∧
    (∀ q ∈ seventeenIdle, q.rst = false) ∧
    (iterRun (portCmd 0x0102 katKey :: seventeenIdle) fresh).rk = katKeys ∧
    response (.next (iterRun (portCmd 0x0101 0x0123456789ABCDEF :: seventeenIdle) loaded)) = some (0, 0x85E813540F0AB405) ∧
    response (.next (iterRun (portCmd 0x0100 0x85E813540F0AB405 :: seventeenIdle) loaded)) = some (0, 0x0123456789ABCDEF) := by
  decide +kernel

theorem witness_IterativeFailuresAreAtomic :
    fresh.busy = false ∧ (portCmd 0x0101 5).rst = false ∧ (portCmd 0x0101 5).cmdValid = true ∧
    exec (decodeCommand 0x0101 5) (fresh.accept 0x0101 5) = .next ((fresh.accept 0x0101 5).failed 2) ∧
    ((fresh.accept 0x0101 5).failed 2).rspErr ≠ 0 := ⟨rfl, rfl, rfl, rfl, by decide⟩

theorem witness_LatencyDoesNotMatter :
    loaded.busy = false ∧ (portCmd 0x0101 5).rst = false ∧ (portCmd 0x0101 5).cmdValid = true ∧
    (∀ i ∈ [portIdle, portCmd 0x0102 6], i.rst = false) ∧ portIdle.rst = false := by decide

theorem witness_ResetAbandonsCommand : (⟨true, true, 0x0101, 5⟩ : PortIn).rst = true := rfl

theorem witness_StatusAndHandshake :
    (loaded.accept 0x0101 5).busy = true ∧ (cmdReady false loaded = true) ∧ cmdReady true loaded = false := by decide

/-- The first bit of the first byte, the last bit of the last, and eight bytes. -/
theorem witness_BlockBytesRoundTrip :
    blockBit (blockByte 0x8000000000000001 0) 1 = true ∧ blockBit (blockByte 0x8000000000000001 7) 8 = true ∧
    blockBytes 0x0123456789ABCDEF = [0x01, 0x23, 0x45, 0x67, 0x89, 0xAB, 0xCD, 0xEF] := by decide

/-- The clauses of the permutation rows at the ends of their ranges, from the spec's tables: the circle of E (bit 32 first,
bit 1 last), and the first and last entries of IP_L, FP, PC2 and P. -/
theorem witness_PermutationRows :
    (∀ i ∈ List.range 48, tableE.getD i 0 = (4 * (i / 6) + i % 6 + 31) % 32 + 1) ∧ tableE.getD 0 0 = 32 ∧
    tableE.getD 47 0 = 1 ∧ (tableIpL.getD 0 0, tableIpL.getD 31 0) = (58, 8) ∧ (tableFp.getD 0 0, tableFp.getD 63 0) = (40, 25) ∧
    (tablePc2.getD 0 0, tablePc2.getD 47 0) = (14, 32) ∧ (tableP.getD 0 0, tableP.getD 31 0) = (16, 25) := by decide

end Sys2Proof.Tests
end

/-! The proofs of the family of 10_state.md: what each command, instruction and step does to the state that a host can reach,
and the statements that follow from it. -/

/-! ### Agreement but for the transients (10_state.md R34): an equivalence that every operation respects -/

namespace Sys2Proof.Machine

open Config (Dir)

theorem agree_symm {s t : State} (h : s.AgreeButTransients t) : t.AgreeButTransients s := by
  obtain ⟨hrk, hkv, hb, hcf, herr, hdata, hv, hd⟩ := h
  exact ⟨hrk.symm, hkv.symm, hb.symm, hcf.symm, herr.symm, hdata.symm, hv.symm, hd.symm⟩

theorem agree_trans {s t u : State} (h : s.AgreeButTransients t) (h' : t.AgreeButTransients u) :
    s.AgreeButTransients u := by
  obtain ⟨hrk, hkv, hb, hcf, herr, hdata, hv, hd⟩ := h
  obtain ⟨hrk', hkv', hb', hcf', herr', hdata', hv', hd'⟩ := h'
  exact ⟨hrk.trans hrk', hkv.trans hkv', hb.trans hb', hcf.trans hcf', herr.trans herr', hdata.trans hdata',
    hv.trans hv', hd.trans hd'⟩

/-- The host's view is part of what agreement covers. -/
theorem hostView_of_agree {s t : State} (h : s.AgreeButTransients t) : s.hostView = t.hostView := by
  obtain ⟨-, hkv, hb, hcf, herr, hdata, hv, -⟩ := h
  simp [State.hostView, statusWord, hkv, hb, hcf, herr, hdata, hv]

theorem firstError_of_agree {s t : State} (h : s.AgreeButTransients t) (il : Bool) (len : Len) (k : Bool) :
    firstError s il len k = firstError t il len k := by
  obtain ⟨-, hkv, -, hcf, -⟩ := h
  exact firstError_congr hcf hkv il len k

theorem respond_agree {s t : State} (h : s.AgreeButTransients t) (e : Err) (x : Block) :
    (s.respond e x).AgreeButTransients (t.respond e x) := by
  obtain ⟨hrk, hkv, -, hcf, -, -, -, hd⟩ := h
  exact ⟨hrk, hkv, rfl, hcf, rfl, rfl, rfl, hd⟩

theorem runSchedule_agree {s t : State} (h : s.AgreeButTransients t) (x : Block) :
    (s.runSchedule x).AgreeButTransients (t.runSchedule x) := h

theorem runFeistel_agree {s t : State} (h : s.AgreeButTransients t) (dir : Dir) (x : Block) :
    (s.runFeistel dir x).AgreeButTransients (t.runFeistel dir x) := h

/-- The commit is where a transient, the shadow file, reaches `RK` (10_state.md R24). -/
theorem commitKeys_agree {s t : State} (h : s.AgreeButTransients t) (hsh : s.rkSh = t.rkSh) :
    s.commitKeys.AgreeButTransients t.commitKeys := by
  obtain ⟨-, -, hb, hcf, herr, hdata, hv, hd⟩ := h
  exact ⟨hsh, rfl, hb, hcf, herr, hdata, hv, hd⟩

theorem withDrive_agree {s t : State} (h : s.AgreeButTransients t) (rest : List Event) :
    ({ s with drive := rest } : State).AgreeButTransients { t with drive := rest } := by
  obtain ⟨hrk, hkv, hb, hcf, herr, hdata, hv, -⟩ := h
  exact ⟨hrk, hkv, hb, hcf, herr, hdata, hv, rfl⟩

theorem quiet_agree {s t : State} (h : s.AgreeButTransients t) : s.quiet.AgreeButTransients t.quiet := by
  obtain ⟨hrk, hkv, hb, hcf, herr, hdata, -, hd⟩ := h
  exact ⟨hrk, hkv, hb, hcf, herr, hdata, rfl, hd⟩

theorem accept_agree {s t : State} (h : s.AgreeButTransients t) (w : CmdWord) (x : Block) :
    (s.accept w x).AgreeButTransients (t.accept w x) := by
  obtain ⟨hrk, hkv, -, hcf, herr, hdata, -, hd⟩ := h
  exact ⟨hrk, hkv, rfl, hcf, herr, hdata, rfl, hd⟩

theorem take_agree {s t : State} (h : s.AgreeButTransients t) (u : Transfer) :
    (s.take u).AgreeButTransients (t.take u) := by
  cases u with
  | command w x => exact accept_agree h w x
  | psel _ _ => exact quiet_agree h
  | saddr _ => exact quiet_agree h
  | fixed _ => exact quiet_agree h

/-- SETKEY reads nothing of the transients (R191). -/
theorem execSetkey_agree {s t : State} (h : s.AgreeButTransients t) (len : Len) (x : Block) :
    AnswerAlike (execSetkey len x s) (execSetkey len x t) := by
  unfold execSetkey
  rw [firstError_of_agree h]
  cases firstError t false len false with
  | some e => exact ⟨_, _, rfl, rfl, respond_agree h e 0⟩
  | none => exact ⟨_, _, rfl, rfl, respond_agree (commitKeys_agree (runSchedule_agree h x) (by simp)) .ok 0⟩

/-- ENCRYPT and DECRYPT read nothing of the transients (R192, R193): the block goes through the key file alone. -/
theorem execCrypt_agree {s t : State} (h : s.AgreeButTransients t) (dir : Dir) (len : Len) (x : Block) :
    AnswerAlike (execCrypt dir len x s) (execCrypt dir len x t) := by
  have ⟨hrk, _⟩ := h
  unfold execCrypt
  rw [firstError_of_agree h, hrk]
  cases firstError t false len true with
  | some e => exact ⟨_, _, rfl, rfl, respond_agree h e 0⟩
  | none => exact ⟨_, _, rfl, rfl, respond_agree (runFeistel_agree h dir x) .ok _⟩

theorem execIllegal_agree {s t : State} (h : s.AgreeButTransients t) : AnswerAlike (execIllegal s) (execIllegal t) := by
  unfold execIllegal
  rw [firstError_of_agree h]
  exact ⟨_, _, rfl, rfl, respond_agree h _ 0⟩

/-- A unit operation writes transients and the unit output alone. -/
theorem exec_unit_agree {i : Instr} (s : State) (hi : i.isCommand = false) :
    ∃ t, exec i s = .next t ∧ s.AgreeButTransients t := by
  cases i with
  | decrypt | encrypt | setkey | illegalOp3 | illegalRsvd => cases hi
  | _ => exact ⟨_, rfl, rfl, rfl, rfl, rfl, rfl, rfl, rfl, rfl⟩

/-- No instruction carries a transient into the rest of the state. -/
theorem exec_agree {s t : State} (h : s.AgreeButTransients t) (i : Instr) : AnswerAlike (exec i s) (exec i t) := by
  cases hi : i.isCommand with
  | false =>
    obtain ⟨s', hs, hs'⟩ := exec_unit_agree s hi
    obtain ⟨t', ht, ht'⟩ := exec_unit_agree t hi
    exact ⟨s', t', hs, ht, agree_trans (agree_symm hs') (agree_trans h ht')⟩
  | true =>
    cases i with
    | decrypt len x => exact execCrypt_agree h .decrypt len x
    | encrypt len x => exact execCrypt_agree h .encrypt len x
    | setkey len x => exact execSetkey_agree h len x
    | illegalOp3 _ _ => exact execIllegal_agree h
    | illegalRsvd _ _ _ _ => exact execIllegal_agree h
    | _ => cases hi

end Sys2Proof.Machine

/-! ### What the decoder answers for each kind of transfer -/

namespace Sys2Proof

@[simp] theorem isCommand_decodePsel (c : BitVec 3) (x : Block) : (decodePsel c x).isCommand = false := by
  unfold decodePsel
  split <;> rfl

@[simp] theorem isCommand_decodeSaddr (a : BitVec 9) : (decodeSaddr a).isCommand = false := by
  unfold decodeSaddr
  split_ifs <;> rfl

@[simp] theorem isCommand_fixedInstr (op : FixedOp) : (fixedInstr op).isCommand = false := by
  cases op <;> rfl

/-- Only what is presented on the host's port decodes to a command. -/
theorem command_of_isCommand_decode {u : Transfer} (h : (decode u).isCommand = true) : ∃ w x, u = .command w x := by
  cases u with
  | command w x => exact ⟨w, x, rfl⟩
  | psel c x => simp [decode] at h
  | saddr a => simp [decode] at h
  | fixed op => simp [decode] at h

/-- A command word is put together again from its three fields (30_encoding.md R71). -/
theorem cmdWord_fields (w : CmdWord) : cmdWord (cmdRsvd w) (cmdLen w) (cmdOp w) = w := by
  unfold cmdWord cmdRsvd cmdLen cmdOp
  rw [BitVec.extractLsb'_append_extractLsb'_eq_extractLsb' (by rfl),
    BitVec.extractLsb'_append_extractLsb'_eq_extractLsb' (by rfl)]
  simp

/-- The one word of a SETKEY of length 64 is `0x0102` (30_encoding.md R87). -/
theorem decodeCommand_eq_setkey {w : CmdWord} {x y : Block} :
    decodeCommand w x = .setkey 64 y ↔ w = 0x0102 ∧ x = y := by
  constructor
  · intro h
    unfold decodeCommand at h
    split_ifs at h with hrsvd _ _ hop
    injection h with hlen hx
    have hw := cmdWord_fields w
    rw [not_not.mp hrsvd, hlen, hop] at hw
    exact ⟨hw.symm, hx⟩
  · rintro ⟨rfl, rfl⟩
    rfl

theorem decode_eq_setkey {u : Transfer} {x : Block} : decode u = .setkey 64 x ↔ u = .command 0x0102 x := by
  constructor
  · intro h
    obtain ⟨w, y, rfl⟩ := command_of_isCommand_decode (u := u) (by rw [h]; rfl)
    obtain ⟨rfl, rfl⟩ := decodeCommand_eq_setkey.mp h
    rfl
  · rintro rfl
    exact decodeCommand_eq_setkey.mpr ⟨rfl, rfl⟩

end Sys2Proof

/-! ### Steps -/

namespace Sys2Proof.Machine

theorem step_reset {s : State} {rest : List Event} (h : s.drive = .reset :: rest) :
    step s = .next { State.reset with drive := rest } := by
  simp [step, fetch_reset h]

theorem step_present {s : State} {u : Transfer} {rest : List Event} (hb : s.busy = false)
    (h : s.drive = .present u :: rest) : step s = exec (decode u) ({ s with drive := rest }.take u) := by
  simp [step, fetch_present hb h]

theorem step_idle {s : State} (hb : s.busy = false) (h : s.drive = []) : step s = .next s.quiet := by
  simp [step, fetch_idle hb h]

/-- CORE is ready again after what it takes while ready: a command ends with `BUSY` cleared, a unit operation never sets
it. -/
theorem busy_of_exec_take {s t : State} {u : Transfer} (hb : s.busy = false) (h : exec (decode u) (s.take u) = .next t) :
    t.busy = false := by
  obtain ⟨-, -, hcmd, hunit⟩ := exec_port h
  cases u with
  | command w x => exact (hcmd (isCommand_decodeCommand w x)).2
  | psel c x => exact (hunit (isCommand_decodePsel c x)).2.trans hb
  | saddr a => exact (hunit (isCommand_decodeSaddr a)).2.trans hb
  | fixed op => exact (hunit (isCommand_fixedInstr op)).2.trans hb

/-- In the atomic reading no step leaves `BUSY` at 1 (10_state.md R26). -/
theorem busy_of_step {s t : State} (h : step s = .next t) : t.busy = false := by
  obtain ⟨rest, -, hs⟩ | ⟨-, -, hs⟩ | ⟨u, rest, hb, -, hs⟩ | ⟨hb, -, hs⟩ := step_cases s <;> rw [hs] at h
  · cases h
    rfl
  · obtain ⟨-, -, hcmd, -⟩ := exec_port h
    exact (hcmd (isCommand_decodeCommand _ _)).2
  · exact busy_of_exec_take (s := { s with drive := rest }) hb h
  · cases h
    exact hb

/-- A step from idle carries no transient into the rest of the state. -/
theorem step_agree {s t : State} (hb : s.busy = false) (h : s.AgreeButTransients t) : AnswerAlike (step s) (step t) := by
  have ⟨_, _, hbusy, _, _, _, _, hdrive⟩ := h
  have hbt : t.busy = false := hbusy ▸ hb
  cases hd : s.drive with
  | nil =>
    rw [step_idle hb hd, step_idle hbt (hdrive ▸ hd)]
    exact ⟨_, _, rfl, rfl, quiet_agree h⟩
  | cons ev rest =>
    cases ev with
    | reset =>
      rw [step_reset hd, step_reset (hdrive ▸ hd)]
      exact ⟨_, _, rfl, rfl, agree_refl _⟩
    | present u =>
      rw [step_present hb hd, step_present hbt (hdrive ▸ hd)]
      exact exec_agree (take_agree (withDrive_agree h rest) u) (decode u)

theorem stepN_agree (n : Nat) {s t : State} (hb : s.busy = false) (h : s.AgreeButTransients t) :
    AnswerAlike (stepN n s) (stepN n t) := by
  induction n generalizing s t with
  | zero => exact ⟨s, t, rfl, rfl, h⟩
  | succ n ih =>
    obtain ⟨s', t', hs, ht, h'⟩ := step_agree hb h
    simp only [stepN, hs, ht]
    exact ih (busy_of_step hs) h'

/-- Settles O44: agreement is kept by every step from idle, and the host's view is part of it. -/
theorem transientsDoNotReachHost : Obligations.TransientsDoNotReachHost := by
  intro n s t hb h
  obtain ⟨s', t', hs, ht, h'⟩ := stepN_agree n hb h
  exact ⟨s', t', hs, ht, h', hostView_of_agree h'⟩

/-! ### What an instruction can do to the keys and the response -/

/-- What a command can do: respond with an error and change nothing else, load the whole schedule of one key, or respond with
a block, which needs a key (45_commands.md R191 to R196). -/
theorem exec_command_cases {i : Instr} (s : State) (hi : i.isCommand = true) :
    (∃ e, e ≠ .ok ∧ exec i s = .next (s.raise e)) ∨
    (∃ x, i = .setkey 64 x ∧ s.cfgFault = false ∧
      exec i s = .next ((s.runSchedule x).commitKeys.respond .ok 0)) ∨
    (∃ dir x, s.cfgFault = false ∧ s.keyValid = true ∧
      exec i s = .next ((s.runFeistel dir x).respond .ok (feistel s.rk dir x))) := by
  have crypt : ∀ dir len x, (∃ e, e ≠ .ok ∧ execCrypt dir len x s = .next (s.raise e)) ∨
      (∃ dir' x', s.cfgFault = false ∧ s.keyValid = true ∧
        execCrypt dir len x s = .next ((s.runFeistel dir' x').respond .ok (feistel s.rk dir' x'))) := by
    intro dir len x
    obtain ⟨e, he, h⟩ | ⟨hnone, h⟩ := execCrypt_cases dir len x s
    · exact .inl ⟨e, firstError_ne_ok he, h⟩
    · obtain ⟨hcf, -, hkv⟩ := firstError_none.mp hnone
      exact .inr ⟨dir, x, hcf, hkv rfl, h⟩
  have illegal : ∃ e, e ≠ .ok ∧ execIllegal s = .next (s.raise e) :=
    ⟨_, firstError_ne_ok (illegalError s 0 false), execIllegal_eq s⟩
  cases i with
  | decrypt len x => exact (crypt .decrypt len x).imp_right .inr
  | encrypt len x => exact (crypt .encrypt len x).imp_right .inr
  | setkey len x =>
    obtain ⟨e, he, h⟩ | ⟨hnone, h⟩ := execSetkey_cases len x s
    · exact .inl ⟨e, firstError_ne_ok he, h⟩
    · obtain ⟨hcf, rfl, -⟩ := firstError_none.mp hnone
      exact .inr (.inl ⟨x, rfl, hcf, h⟩)
  | illegalOp3 _ _ => exact .inl illegal
  | illegalRsvd _ _ _ _ => exact .inl illegal
  | _ => cases hi

/-- A SETKEY of length 64 without a configuration fault loads the whole schedule (R191). -/
theorem exec_setkey_success {s : State} (hcf : s.cfgFault = false) (x : Block) :
    exec (.setkey 64 x) s = .next ((s.runSchedule x).commitKeys.respond .ok 0) := by
  have hnone : firstError s false 64 false = none := firstError_none.mpr ⟨hcf, rfl, Bool.noConfusion⟩
  simp only [exec, execSetkey, hnone]

/-- Every instruction but the successful SETKEY leaves `RK` and `KEY_VALID` (10_state.md R24). -/
theorem exec_keys {i : Instr} {s t : State} (h : exec i s = .next t) :
    (t.rk = s.rk ∧ t.keyValid = s.keyValid) ∨ (s.cfgFault = false ∧ ∃ x : Block, i = .setkey 64 x) := by
  cases hi : i.isCommand with
  | false =>
    obtain ⟨t', ht, hrk, hkv, -⟩ := exec_unit_agree s hi
    cases ht.symm.trans h
    exact .inl ⟨hrk.symm, hkv.symm⟩
  | true =>
    obtain ⟨e, -, h'⟩ | ⟨x, hx, hcf, -⟩ | ⟨dir, x, -, -, h'⟩ := exec_command_cases s hi
    · cases h'.symm.trans h
      exact .inl ⟨rfl, rfl⟩
    · exact .inr ⟨hcf, x, hx⟩
    · cases h'.symm.trans h
      exact .inl ⟨rfl, rfl⟩

/-! ### The invariant -/

/-- The invariant speaks of five registers. -/
theorem inv_of_eq {s t : State} (hrk : t.rk = s.rk) (hkv : t.keyValid = s.keyValid) (hcf : t.cfgFault = s.cfgFault)
    (herr : t.rspErr = s.rspErr) (hdata : t.rspData = s.rspData) (h : s.Inv) : t.Inv := by
  unfold State.Inv
  rw [hrk, hkv, hcf, herr, hdata]
  exact h

theorem errCode_le_four (e : Err) : (errCode e).toNat ≤ 4 := by cases e <;> decide

/-- A response keeps the invariant where a failure's data is zero (10_state.md R29). -/
theorem inv_respond {s : State} (h : s.Inv) {e : Err} {x : Block} (hx : e ≠ .ok → x = 0) : (s.respond e x).Inv := by
  obtain ⟨hkey, hnokey, hcf, -, -⟩ := h
  refine ⟨hkey, hnokey, hcf, errCode_le_four e, fun he => hx ?_⟩
  rintro rfl
  exact he rfl

theorem inv_raise {s : State} (h : s.Inv) (e : Err) : (s.raise e).Inv := inv_respond h fun _ => rfl

/-- A commit keeps the invariant where the shadow file holds one key's whole schedule (10_state.md R24). -/
theorem inv_commitKeys {s : State} (h : s.Inv) {key : Block} (hsh : s.rkSh = keySchedule key) : s.commitKeys.Inv := by
  obtain ⟨-, -, hcf, herr, hdata⟩ := h
  exact ⟨fun _ => ⟨key, hsh⟩, Bool.noConfusion, hcf, herr, hdata⟩

theorem inv_reset : State.reset.Inv :=
  ⟨Bool.noConfusion, fun _ => rfl, rfl, Nat.zero_le 4, fun _ => rfl⟩

theorem exec_keeps_inv {i : Instr} {s t : State} (hs : s.Inv) (h : exec i s = .next t) : t.Inv := by
  cases hi : i.isCommand with
  | false =>
    obtain ⟨t', ht, hrk, hkv, -, hcf, herr, hdata, -⟩ := exec_unit_agree s hi
    cases ht.symm.trans h
    exact inv_of_eq hrk.symm hkv.symm hcf.symm herr.symm hdata.symm hs
  | true =>
    obtain ⟨e, -, h'⟩ | ⟨x, -, -, h'⟩ | ⟨dir, x, -, -, h'⟩ := exec_command_cases s hi <;> cases h'.symm.trans h
    · exact inv_raise hs e
    · exact inv_respond (inv_commitKeys (s := s.runSchedule x) hs (runSchedule_rkSh s x)) fun _ => rfl
    · exact inv_respond (s := s.runFeistel dir x) hs fun hok => absurd rfl hok

theorem take_keeps_inv {s : State} (h : s.Inv) (u : Transfer) : (s.take u).Inv := by
  obtain ⟨hrk, hkv, hcf, herr, hdata, -⟩ := take_keeps s u
  exact inv_of_eq hrk hkv hcf herr hdata h

/-- Settles O51: reset meets the invariant, and taking, executing and idling keep it. -/
theorem everyStepKeepsInv : Obligations.EveryStepKeepsInv := by
  intro s t hs h
  obtain ⟨rest, -, h'⟩ | ⟨-, -, h'⟩ | ⟨u, rest, -, -, h'⟩ | ⟨-, -, h'⟩ := step_cases s <;> rw [h'] at h
  · cases h
    exact inv_reset
  · exact exec_keeps_inv (s := s.quiet) hs h
  · exact exec_keeps_inv (take_keeps_inv (s := { s with drive := rest }) hs u) h
  · cases h
    exact hs

/-- Settles O52: each value is the reset state's own, and `CFG_FAULT` is the table check's. -/
theorem resetMeetsInv : Obligations.ResetMeetsInv :=
  ⟨inv_reset, reset_keyValid, reset_busy, reset_cfgFault, reset_rspErr, reset_rspData, by simp [statusWord], rfl⟩

/-! ### The flags and the keys over a step -/

/-- Settles O40: the commit of a SETKEY is the one write of `RK` and `KEY_VALID`. -/
theorem onlySetkeyChangesKeys : Obligations.OnlySetkeyChangesKeys := by
  refine ⟨fun s x hcf => ⟨_, exec_setkey_success hcf x, rfl, rfl⟩, fun i s t => exec_keys, fun s len x hfail => ?_⟩
  obtain ⟨e, -, h⟩ | ⟨hnone, -⟩ := execSetkey_cases len x s
  · exact ⟨s.raise e, h, rfl, rfl⟩
  · obtain ⟨hcf, hlen, -⟩ := firstError_none.mp hnone
    simp [hcf, hlen] at hfail

/-- `KEY_VALID` after an instruction, where the configuration is good. -/
theorem exec_keyValid {i : Instr} {s t : State} (hcf : s.cfgFault = false) (h : exec i s = .next t) :
    t.keyValid = true ↔ (∃ x : Block, i = .setkey 64 x) ∨ s.keyValid = true := by
  by_cases hi : ∃ x : Block, i = .setkey 64 x
  · obtain ⟨x, rfl⟩ := hi
    cases (exec_setkey_success hcf x).symm.trans h
    simp
  · obtain ⟨-, hkv⟩ | ⟨-, hx⟩ := exec_keys h
    · rw [hkv, or_iff_right hi]
    · exact absurd hx hi

/-- Settles O41: by what is presented next; the word `0x0102` is the only one that decodes to a SETKEY of length 64. -/
theorem keyValidLifecycle : Obligations.KeyValidLifecycle := by
  intro s t hcf hb h
  cases hd : s.drive with
  | nil =>
    cases (step_idle hb hd).symm.trans h
    simp
  | cons ev rest =>
    cases ev with
    | reset =>
      cases (step_reset hd).symm.trans h
      simp
    | present u =>
      rw [step_present hb hd] at h
      obtain ⟨-, hkv, hcf', -⟩ := take_keeps { s with drive := rest } u
      rw [exec_keyValid (hcf'.trans hcf) h, hkv]
      simp only [decode_eq_setkey]
      simp

/-- Settles O42: reset computes the check, and neither taking nor executing writes the flag. -/
theorem cfgFaultConstant : Obligations.CfgFaultConstant := by
  refine ⟨(Bool.not_eq_true' (checkTables tables)).to_iff, checkTables_tables, fun s t h => ⟨?_, fun hr => ?_⟩⟩
  · rintro ⟨rest, hd⟩
    cases (step_reset hd).symm.trans h
    exact reset_cfgFault
  · obtain ⟨rest, hd, -⟩ | ⟨-, -, h'⟩ | ⟨u, rest, -, -, h'⟩ | ⟨-, -, h'⟩ := step_cases s
    · exact absurd hd (hr rest)
    · obtain ⟨-, hcf, -⟩ := exec_port (h'.symm.trans h)
      exact hcf
    · obtain ⟨-, hcf, -⟩ := exec_port (h'.symm.trans h)
      obtain ⟨-, -, hcf', -⟩ := take_keeps { s with drive := rest } u
      exact hcf.trans hcf'
    · cases h'.symm.trans h
      rfl

/-! ### A failing command in the iterative reading -/

/-- The atomic meaning of a command by the engine it uses (10_state.md R31). -/
def Engine.run (e : Engine) (len : Len) (x : Block) (s : State) : Host.Outcome State Fault Refusal :=
  match e with
  | .schedule => execSetkey len x s
  | .feistel dir => execCrypt dir len x s
  | .noEngine => execIllegal s

/-- The engine that the iterative machine starts is the one of the command that the decoder reads (30_encoding.md R75). -/
theorem exec_decodeCommand (w : CmdWord) (x : Block) (s : State) :
    exec (decodeCommand w x) s = (engineOf w).run (cmdLen w) x s := by
  unfold decodeCommand engineOf
  split_ifs <;> rfl

/-- The cycle of acceptance checks as the atomic meaning does, so that a failing command responds alike in both (log entry
13). -/
theorem iterAccept_of_failure {s t : State} {w : CmdWord} {x : Block}
    (h : (engineOf w).run (cmdLen w) x (s.accept w x) = .next t) (herr : t.rspErr ≠ 0) : s.iterAccept w x = t := by
  unfold State.iterAccept
  generalize engineOf w = eng at h ⊢
  cases eng with
  | schedule =>
    obtain ⟨e, he, h'⟩ | ⟨-, h'⟩ := execSetkey_cases (cmdLen w) x (s.accept w x) <;> cases h'.symm.trans h
    · simp [he]
    · exact absurd rfl herr
  | feistel dir =>
    obtain ⟨e, he, h'⟩ | ⟨-, h'⟩ := execCrypt_cases dir (cmdLen w) x (s.accept w x) <;> cases h'.symm.trans h
    · simp [he]
    · exact absurd rfl herr
  | noEngine =>
    cases (execIllegal_eq (s.accept w x)).symm.trans h
    simp [illegalError]

/-- Settles O56: an idle iterative machine takes the presented command in a cycle of acceptance. -/
theorem iterativeFailuresAreAtomic : Obligations.IterativeFailuresAreAtomic := by
  intro s t p hb hrst hvalid h herr
  rw [exec_decodeCommand] at h
  simpa [iterClock, hrst, hb, hvalid] using iterAccept_of_failure h herr

end Sys2Proof.Machine

/-! The proofs of the family of 20_memory.md: the bytes of a block, the contents of the two ROMs, repeated commands, and the
key that a command uses. -/

/-! ### A block as eight bytes (20_memory.md R56) -/

namespace Sys2Proof.Machine

theorem blockBit_blockByte (x : Block) {j i : Nat} (hj : j < 8) (h1 : 1 ≤ i) (hi : i ≤ 8) :
    blockBit (blockByte x j) i = blockBit x (8 * j + i) := by
  have hlsb : 56 - 8 * j + (8 - 1 - (i - 1)) = 64 - 1 - (8 * j + i - 1) := by omega
  have hbyte : i - 1 < 8 ∧ 8 - 1 - (i - 1) < 8 := by omega
  have hblock : 8 * j + i - 1 < 64 := by omega
  simp only [blockBit, blockByte, BitVec.getMsbD, BitVec.getLsbD_extractLsb', hlsb, hbyte, hblock, decide_true,
    Bool.true_and]

/-- A block is given by its eight bytes. -/
theorem block_ext_bytes {x y : Block} (h : ∀ j < 8, blockByte x j = blockByte y j) : x = y := by
  apply block_ext
  intro i h1 hi
  have hsplit : 8 * ((i - 1) / 8) + ((i - 1) % 8 + 1) = i := by omega
  rw [← hsplit, ← blockBit_blockByte x (by omega) (by omega) (by omega),
    ← blockBit_blockByte y (by omega) (by omega) (by omega), h _ (by omega)]

/-- A byte moved after some others: what they carry goes up by a byte, and it comes last. -/
theorem blockOfBytes_concat (bytes : List (BitVec 8)) (b : BitVec 8) :
    blockOfBytes (bytes ++ [b]) = blockOfBytes bytes <<< 8 ||| b.setWidth 64 := by
  simp [blockOfBytes]

theorem blockByte_push_last (x : Block) (b : BitVec 8) : blockByte (x <<< 8 ||| b.setWidth 64) 7 = b := by
  ext i hi
  simp [blockByte, hi]
  omega

theorem blockByte_push (x : Block) (b : BitVec 8) {j : Nat} (hj : j < 7) :
    blockByte (x <<< 8 ||| b.setWidth 64) j = blockByte x (j + 1) := by
  ext i hi
  have h8 : ¬ 56 - 8 * j + i < 8 := by omega
  have hb : b.getLsbD (56 - 8 * j + i) = false := BitVec.getLsbD_of_ge _ _ (by omega)
  have h64 : 56 - 8 * j + i < 64 := by omega
  have hlsb : 56 - 8 * j + i - 8 = 56 - 8 * (j + 1) + i := by omega
  simp [blockByte, h8, hb, h64, hlsb, ← BitVec.getLsbD_eq_getElem]

/-- The bytes moved are the last bytes of the block they give, in their order. -/
theorem blockByte_blockOfBytes (bytes : List (BitVec 8)) (hlen : bytes.length ≤ 8) (j : Nat) (hj : j < bytes.length) :
    blockByte (blockOfBytes bytes) (8 - bytes.length + j) = bytes[j] := by
  induction bytes using List.reverseRecOn generalizing j with
  | nil => cases hj
  | append_singleton bytes b ih =>
    simp only [List.length_append, List.length_singleton] at hlen hj ⊢
    rw [blockOfBytes_concat]
    obtain rfl | hinit := Nat.eq_or_lt_of_le (Nat.le_of_lt_succ hj)
    · have h7 : 8 - (bytes.length + 1) + bytes.length = 7 := by omega
      rw [h7, blockByte_push_last, List.getElem_concat_length rfl]
    · have hnext : 8 - (bytes.length + 1) + j + 1 = 8 - bytes.length + j := by omega
      rw [blockByte_push _ _ (by omega), hnext, ih (by omega) j hinit, List.getElem_append_left]

/-- Eight bytes are the bytes of the block they give. -/
theorem blockBytes_blockOfBytes {bytes : List (BitVec 8)} (hlen : bytes.length = 8) :
    blockBytes (blockOfBytes bytes) = bytes := by
  apply List.ext_getElem
  · simp [blockBytes, hlen]
  · intro j _ hj
    simpa [blockBytes, hlen] using blockByte_blockOfBytes bytes hlen.le j hj

theorem blockOfBytes_blockBytes (x : Block) : blockOfBytes (blockBytes x) = x := by
  apply block_ext_bytes
  intro j hj
  have hlen : (blockBytes x).length = 8 := by simp [blockBytes]
  simpa [blockBytes] using blockByte_blockOfBytes (blockBytes x) hlen.le j (by omega)

/-- Settles O60: both round trips follow from where a moved byte comes to stand in the block. -/
theorem blockBytesRoundTrip : Obligations.BlockBytesRoundTrip :=
  ⟨by decide, fun x _ _ => blockBit_blockByte x, blockOfBytes_blockBytes, fun _ => blockBytes_blockOfBytes⟩

end Sys2Proof.Machine

/-! ### The words of the two ROMs (20_memory.md R52, R53) -/

namespace Sys2Proof.Machine

open Config (Tsel)

/-- What the table check says of each table (60_exceptions.md R213): its declared length, and 1-based positions of its input
only. -/
theorem table_length_and_positions (t : Tsel) :
    (tables.table t).length = t.nOut ∧ ∀ v ∈ tables.table t, 1 ≤ v ∧ v ≤ t.nIn := by
  cases t <;> decide

theorem one_le_table_entry (t : Tsel) {p : Nat} (hp : p < t.nOut) : 1 ≤ (tables.table t).getD p 0 := by
  obtain ⟨hlen, hpos⟩ := table_length_and_positions t
  rw [← hlen] at hp
  rw [List.getD_eq_getElem _ _ hp]
  exact (hpos _ (List.getElem_mem hp)).1

/-- An S-box entry fits in four bits (R53). -/
theorem sbox_entry_lt_16 {b r c : Nat} (hb : b < 8) (hr : r < 4) (hc : c < 16) :
    ((tables.sboxes.getD b []).getD r []).getD c 0 < 16 := by
  have h : ∀ b < 8, ∀ r < 4, ∀ c < 16, ((tables.sboxes.getD b []).getD r []).getD c 0 < 16 := by decide
  exact h b hb r hr c hc

/-- An SROM word is the entry of the box, row and column that its address joins (R53). -/
theorem srom_toNat {b r c : Nat} (hb : b < 8) (hr : r < 4) (hc : c < 16) :
    (srom (BitVec.ofNat 9 (64 * b + 16 * r + c))).toNat = ((tables.sboxes.getD b []).getD r []).getD c 0 := by
  obtain ⟨hbox, hrow, hcol⟩ : ((BitVec.ofNat 9 (64 * b + 16 * r + c)).extractLsb' 6 3).toNat = b ∧
      ((BitVec.ofNat 9 (64 * b + 16 * r + c)).extractLsb' 4 2).toNat = r ∧
      ((BitVec.ofNat 9 (64 * b + 16 * r + c)).extractLsb' 0 4).toNat = c := by
    simp only [BitVec.extractLsb'_toNat, BitVec.toNat_ofNat, Nat.shiftRight_eq_div_pow]
    omega
  rw [srom, hbox, hrow, hcol, BitVec.toNat_ofNat, Nat.mod_eq_of_lt (sbox_entry_lt_16 hb hr hc)]

/-- Settles O12: an address splits into its fields, and the tables are as long as R80 says. -/
theorem romContents : Obligations.RomContents := by
  refine ⟨fun t p hp => ?_, fun b r c => srom_toNat⟩
  have hword : (plut (tselCode t ++ BitVec.ofNat 6 p)).toNat = (tables.table t).getD p 0 := plut_toNat t hp
  rw [hword]
  refine ⟨?_, fun hin => ⟨one_le_table_entry t hin, table_le_64 t p⟩⟩
  split_ifs with hin
  · rfl
  · obtain ⟨hlen, -⟩ := table_length_and_positions t
    exact List.getD_eq_default _ _ (by omega)

end Sys2Proof.Machine

/-! ### The same command twice (20_memory.md R60) -/

namespace Sys2Proof.Machine

open Config (Dir)

/-- The error of a command that needs no key depends on the state through `CFG_FAULT` alone (R215). -/
theorem firstError_noKey_congr {s t : State} (hcf : s.cfgFault = t.cfgFault) (il : Bool) (len : Len) :
    firstError s il len false = firstError t il len false := by
  simp [firstError, hcf]

theorem execCrypt_error {dir : Dir} {len : Len} {x : Block} {s : State} {e : Err}
    (h : firstError s false len true = some e) : execCrypt dir len x s = .next (s.raise e) := by
  simp [execCrypt, h]

theorem execCrypt_success {dir : Dir} {len : Len} {x : Block} {s : State} (h : firstError s false len true = none) :
    execCrypt dir len x s = .next ((s.runFeistel dir x).respond .ok (feistel s.rk dir x)) := by
  simp [execCrypt, h]

theorem execSetkey_error {len : Len} {x : Block} {s : State} {e : Err}
    (h : firstError s false len false = some e) : execSetkey len x s = .next (s.raise e) := by
  simp [execSetkey, h]

theorem execSetkey_success {len : Len} {x : Block} {s : State} (h : firstError s false len false = none) :
    execSetkey len x s = .next ((s.runSchedule x).commitKeys.respond .ok 0) := by
  simp [execSetkey, h]

/-- ENCRYPT and DECRYPT only read the keys and the flags (R192, R193). -/
theorem execCrypt_keeps {dir : Dir} {len : Len} {x : Block} {s t : State} (h : execCrypt dir len x s = .next t) :
    t.rk = s.rk ∧ t.keyValid = s.keyValid ∧ t.cfgFault = s.cfgFault := by
  obtain ⟨_, -, h'⟩ | ⟨-, h'⟩ := execCrypt_cases dir len x s <;> cases h'.symm.trans h <;> exact ⟨rfl, rfl, rfl⟩

/-- A repeated ENCRYPT or DECRYPT meets the same error, or the same key file. -/
theorem execCrypt_again {dir : Dir} {len : Len} {x : Block} {s t : State} (h : execCrypt dir len x s = .next t) :
    ∃ u, execCrypt dir len x t = .next u ∧ t.AgreeButTransients u := by
  obtain ⟨-, hkv, hcf⟩ := execCrypt_keeps h
  have herr := firstError_congr hcf hkv false len true
  obtain ⟨e, he, h'⟩ | ⟨hnone, h'⟩ := execCrypt_cases dir len x s <;> cases h'.symm.trans h
  · exact ⟨_, execCrypt_error (herr.trans he), agree_refl _⟩
  · exact ⟨_, execCrypt_success (herr.trans hnone), by simp [State.AgreeButTransients]⟩

/-- A repeated SETKEY meets the same error, or loads the same schedule; that `KEY_VALID` may have changed does not matter. -/
theorem execSetkey_again {len : Len} {x : Block} {s t : State} (h : execSetkey len x s = .next t) :
    ∃ u, execSetkey len x t = .next u ∧ t.AgreeButTransients u := by
  obtain ⟨-, hcf, -⟩ := exec_port (i := .setkey len x) h
  have herr := firstError_noKey_congr hcf false len
  obtain ⟨e, he, h'⟩ | ⟨hnone, h'⟩ := execSetkey_cases len x s <;>
    obtain rfl := Host.Outcome.next.inj (h'.symm.trans h)
  · exact ⟨_, execSetkey_error (herr.trans he), agree_refl _⟩
  · exact ⟨_, execSetkey_success (herr.trans hnone), by simp [State.AgreeButTransients]⟩

/-- Settles O45: the repeated command meets the same checks and reads the same keys. -/
theorem repeatedCommandsAgree : Obligations.RepeatedCommandsAgree :=
  ⟨fun _ _ _ _ h => ⟨execCrypt_again h, execCrypt_keeps h⟩, fun _ _ _ h => execSetkey_again h, fun _ _ => ⟨rfl, rfl⟩⟩

end Sys2Proof.Machine

/-! ### The key that a command uses (20_memory.md R63) -/

namespace Sys2Proof.Machine

open Config (Dir)

/-- CORE is idle and ready, and `RK` is the schedule of a key that a SETKEY has loaded. -/
structure State.HoldsKey (s : State) (key : Block) : Prop where
  cfgFault : s.cfgFault = false
  busy : s.busy = false
  keyValid : s.keyValid = true
  rk : s.rk = keySchedule key

/-- Every instruction answers a next state. -/
theorem exec_next (i : Instr) (s : State) : ∃ t, exec i s = .next t := by
  obtain ⟨t, -, h, -⟩ := exec_agree (agree_refl s) i
  exact ⟨t, h⟩

theorem stepN_succ {s t : State} (n : Nat) (h : step s = .next t) : stepN (n + 1) s = stepN n t := by
  simp [stepN, h]

/-- A presented SETKEY loads its key (R191). -/
theorem step_setkey {s : State} {key : Block} {rest : List Event} (hcf : s.cfgFault = false) (hb : s.busy = false)
    (hd : s.drive = .present (.command 0x0102 key) :: rest) :
    ∃ t, step s = .next t ∧ t.HoldsKey key ∧ t.drive = rest := by
  rw [step_present hb hd, decode_eq_setkey.mpr rfl]
  obtain ⟨-, -, hcf', -, -, hdrive, -⟩ := take_keeps { s with drive := rest } (.command 0x0102 key)
  exact ⟨_, exec_setkey_success (hcf'.trans hcf) key, ⟨hcf'.trans hcf, rfl, rfl, by simp⟩, hdrive⟩

/-- Every other presented command leaves the key where it is (10_state.md R24). -/
theorem step_keeps_key {s : State} {key x : Block} {w : CmdWord} {rest : List Event} (hs : s.HoldsKey key)
    (hw : w ≠ 0x0102) (hd : s.drive = .present (.command w x) :: rest) :
    ∃ t, step s = .next t ∧ t.HoldsKey key ∧ t.drive = rest := by
  obtain ⟨t, h⟩ := exec_next (decodeCommand w x) (({ s with drive := rest } : State).accept w x)
  obtain ⟨hdrive, hcf, hcmd, -⟩ := exec_port h
  obtain ⟨-, hbusy⟩ := hcmd (isCommand_decodeCommand w x)
  obtain ⟨hrk, hkv⟩ | ⟨-, y, hy⟩ := exec_keys h
  · exact ⟨t, (step_present hs.busy hd).trans h, ⟨hcf.trans hs.cfgFault, hbusy, hkv.trans hs.keyValid, hrk.trans hs.rk⟩,
      hdrive⟩
  · exact absurd (decodeCommand_eq_setkey.mp hy).1 hw

/-- A presented ENCRYPT or DECRYPT of length 64 responds with the block under the key that is held (R192, R193). -/
theorem step_crypt {s : State} {key x : Block} {w : CmdWord} {dir : Dir} {rest : List Event} (hs : s.HoldsKey key)
    (hw : engineOf w = .feistel dir) (hlen : cmdLen w = 64) (hd : s.drive = .present (.command w x) :: rest) :
    ∃ t, step s = .next t ∧ t.rspErr = 0 ∧ t.rspValid = true ∧ t.rspData = feistel (keySchedule key) dir x ∧
      t.rk = keySchedule key ∧ t.drive = rest := by
  let s' : State := ({ s with drive := rest } : State).accept w x
  have hnone : firstError s' false 64 true = none := firstError_none.mpr ⟨hs.cfgFault, rfl, fun _ => hs.keyValid⟩
  have hexec : exec (decodeCommand w x) s' = execCrypt dir 64 x s' := by
    rw [exec_decodeCommand, hw, hlen]
    rfl
  refine ⟨_, (step_present hs.busy hd).trans (hexec.trans (execCrypt_success hnone)), rfl, rfl, ?_, hs.rk, rfl⟩
  exact congrArg (feistel · dir x) hs.rk

/-- The key is held over any commands but a successful SETKEY, and the ENCRYPT or DECRYPT after them uses it. -/
theorem stepN_crypt_after_commands {key x : Block} {w : CmdWord} {dir : Dir} {rest : List Event}
    (hw : engineOf w = .feistel dir) (hlen : cmdLen w = 64) (cmds : List (CmdWord × Block))
    (hcmds : ∀ c ∈ cmds, c.1 ≠ 0x0102) {s : State} (hs : s.HoldsKey key)
    (hd : s.drive = cmds.map (fun c => Event.present (.command c.1 c.2)) ++ .present (.command w x) :: rest) :
    ∃ t, stepN (cmds.length + 1) s = .next t ∧ t.rspErr = 0 ∧ t.rspValid = true ∧
      t.rspData = feistel (keySchedule key) dir x ∧ t.rk = keySchedule key ∧ t.drive = rest := by
  induction cmds generalizing s with
  | nil =>
    obtain ⟨t, h, ht⟩ := step_crypt hs hw hlen hd
    exact ⟨t, stepN_succ 0 h, ht⟩
  | cons c cmds ih =>
    obtain ⟨hc, hcmds'⟩ := List.forall_mem_cons.mp hcmds
    obtain ⟨u, h, hu, hdu⟩ := step_keeps_key hs hc hd
    obtain ⟨t, h', ht⟩ := ih hcmds' hu hdu
    exact ⟨t, (stepN_succ _ h).trans h', ht⟩

/-- Settles O50: SETKEY loads the key, and the commands between hold it. -/
theorem lastLoadedKeyIsUsed : Obligations.LastLoadedKeyIsUsed := by
  intro s key x dir cmds rest hcf hb hcmds hd
  obtain ⟨u, h, hu, hdu⟩ := step_setkey hcf hb hd
  obtain ⟨t, h', ht⟩ := stepN_crypt_after_commands (dir := dir) (by cases dir <;> rfl) (by cases dir <;> rfl) cmds
    hcmds hu hdu
  exact ⟨t, (stepN_succ _ h).trans h', ht⟩

end Sys2Proof.Machine

/-! The proofs of the family of 30_encoding.md: the encoder and the decoder undo each other field by field, what a failing
command ignores, and the flags that the port shows. -/

/-! ### Command words (30_encoding.md R71, R75) -/

namespace Sys2Proof

@[simp] theorem cmdRsvd_cmdWord (rsvd : BitVec 7) (len : Len) (op : BitVec 2) : cmdRsvd (cmdWord rsvd len op) = rsvd := by
  unfold cmdRsvd cmdWord
  rw [BitVec.extractLsb'_append_eq_of_le (by omega), BitVec.extractLsb'_append_eq_of_le (by omega)]
  simp

@[simp] theorem cmdLen_cmdWord (rsvd : BitVec 7) (len : Len) (op : BitVec 2) : cmdLen (cmdWord rsvd len op) = len := by
  unfold cmdLen cmdWord
  rw [BitVec.extractLsb'_append_eq_of_le (by omega), BitVec.extractLsb'_append_eq_of_add_le (by omega)]
  simp

@[simp] theorem cmdOp_cmdWord (rsvd : BitVec 7) (len : Len) (op : BitVec 2) : cmdOp (cmdWord rsvd len op) = op := by
  unfold cmdOp cmdWord
  rw [BitVec.extractLsb'_append_eq_of_add_le (by omega)]
  simp

/-- A word whose `RSVD` and `OP` are known is put together from them and its `LEN`. -/
theorem cmdWord_eq_of_fields {w : CmdWord} {rsvd : BitVec 7} {op : BitVec 2} (hrsvd : cmdRsvd w = rsvd)
    (hop : cmdOp w = op) : cmdWord rsvd (cmdLen w) op = w := by
  rw [← hrsvd, ← hop, cmdWord_fields]

/-- `OP` has four values (R72). -/
theorem op_eq_three {op : BitVec 2} (h0 : op ≠ 0) (h1 : op ≠ 1) (h2 : op ≠ 2) : op = 3 := by
  bv_omega

theorem encode_decodeCommand (w : CmdWord) (x : Block) : encode (decodeCommand w x) = .command w x := by
  unfold decodeCommand
  split_ifs with hrsvd h0 h1 h2
  · exact congrArg (Transfer.command · x) (cmdWord_fields w)
  · exact congrArg (Transfer.command · x) (cmdWord_eq_of_fields (not_not.mp hrsvd) h0)
  · exact congrArg (Transfer.command · x) (cmdWord_eq_of_fields (not_not.mp hrsvd) h1)
  · exact congrArg (Transfer.command · x) (cmdWord_eq_of_fields (not_not.mp hrsvd) h2)
  · exact congrArg (Transfer.command · x) (cmdWord_eq_of_fields (not_not.mp hrsvd) (op_eq_three h0 h1 h2))

theorem wellFormed_decodeCommand (w : CmdWord) (x : Block) : (decodeCommand w x).WellFormed := by
  unfold decodeCommand
  split_ifs with hrsvd
  · exact hrsvd
  all_goals trivial

/-! The fields of a word as numbers. -/

theorem cmdRsvd_eq_ofNat (w : CmdWord) : cmdRsvd w = BitVec.ofNat 7 (w.toNat / 512) := by
  simp [cmdRsvd, BitVec.extractLsb', Nat.shiftRight_eq_div_pow]

theorem cmdLen_eq_ofNat (w : CmdWord) : cmdLen w = BitVec.ofNat 7 (w.toNat / 4 % 128) := by
  apply BitVec.eq_of_toNat_eq
  simp [cmdLen, BitVec.extractLsb'_toNat, Nat.shiftRight_eq_div_pow]

theorem cmdOp_eq_ofNat (w : CmdWord) : cmdOp w = BitVec.ofNat 2 (w.toNat % 4) := by
  apply BitVec.eq_of_toNat_eq
  simp [cmdOp, BitVec.extractLsb'_toNat]

theorem cmdRsvd_eq_zero_iff (w : CmdWord) : cmdRsvd w = 0 ↔ w.toNat / 512 = 0 := by
  rw [cmdRsvd_eq_ofNat]
  bv_omega

theorem cmdOp_eq_iff (w : CmdWord) (op : BitVec 2) : cmdOp w = op ↔ w.toNat % 4 = op.toNat := by
  rw [cmdOp_eq_ofNat]
  bv_omega

/-- Settles O3: the decoder's tests and fields, read as numbers. -/
theorem commandWordDecodesByFields : Obligations.CommandWordDecodesByFields := by
  intro w x
  simp only [decodeCommand, ne_eq, cmdRsvd_eq_zero_iff, cmdOp_eq_iff]
  rw [cmdRsvd_eq_ofNat, cmdLen_eq_ofNat, cmdOp_eq_ofNat]
  rfl

/-! ### Selects of the permutation unit (R80) -/

theorem tselCode_tselOf (c : BitVec 3) : tselCode (tselOf c) = c := by
  revert c
  decide

theorem pselWidth_tselCode (t : Config.Tsel) : pselWidth (tselCode t) = t.nIn := by
  cases t <;> rfl

/-- What a narrower input carries fits in it. -/
theorem fitsIn_setWidth {n : Nat} (hn : n ≤ 64) (x : BitVec n) : fitsIn n (x.setWidth 64) := by
  rw [fitsIn, BitVec.toNat_setWidth_of_le hn]
  exact x.isLt

/-- A narrower input loses nothing of a block that fits in it. -/
theorem setWidth_setWidth_of_fitsIn {n : Nat} {x : Block} (hx : fitsIn n x) : (x.setWidth n).setWidth 64 = x := by
  apply BitVec.eq_of_toNat_eq
  rw [BitVec.toNat_setWidth, BitVec.toNat_setWidth, Nat.mod_eq_of_lt hx, Nat.mod_eq_of_lt x.isLt]

theorem encode_decodePsel {c : BitVec 3} {x : Block} (hx : fitsIn (pselWidth c) x) :
    encode (decodePsel c x) = .psel c x := by
  obtain ⟨t, rfl⟩ : ∃ t, c = tselCode t := ⟨tselOf c, (tselCode_tselOf c).symm⟩
  rw [pselWidth_tselCode] at hx
  cases t with
  | pc2 => exact congrArg (Transfer.psel 5) (setWidth_setWidth_of_fitsIn hx)
  | e => exact congrArg (Transfer.psel 6) (setWidth_setWidth_of_fitsIn hx)
  | p => exact congrArg (Transfer.psel 7) (setWidth_setWidth_of_fitsIn hx)
  | _ => rfl

theorem wellFormed_decodePsel (c : BitVec 3) (x : Block) : (decodePsel c x).WellFormed := by
  unfold decodePsel
  split <;> trivial

/-! ### Addresses of the S-box ROM (R81, 41_sbox.md R121) -/

@[simp] theorem saddrBox_saddrOf (b : BitVec 3) (g : Group) : saddrBox (saddrOf b g) = b := by
  unfold saddrBox saddrOf
  rw [BitVec.extractLsb'_append_eq_of_le (by omega), BitVec.extractLsb'_append_eq_of_le (by omega),
    BitVec.extractLsb'_append_eq_of_le (by omega)]
  simp

@[simp] theorem saddrGroup_saddrOf (b : BitVec 3) (g : Group) : saddrGroup (saddrOf b g) = g := by
  have hfirst : (saddrOf b g).extractLsb' 5 1 = g.extractLsb' 5 1 := by
    unfold saddrOf
    rw [BitVec.extractLsb'_append_eq_of_le (by omega), BitVec.extractLsb'_append_eq_of_le (by omega),
      BitVec.extractLsb'_append_eq_of_add_le (by omega)]
    simp
  have hlast : (saddrOf b g).extractLsb' 4 1 = g.extractLsb' 0 1 := by
    unfold saddrOf
    rw [BitVec.extractLsb'_append_eq_of_le (by omega), BitVec.extractLsb'_append_eq_of_add_le (by omega)]
    simp
  have hcol : (saddrOf b g).extractLsb' 0 4 = g.extractLsb' 1 4 := by
    unfold saddrOf
    rw [BitVec.extractLsb'_append_eq_of_add_le (by omega)]
    simp
  rw [saddrGroup, hfirst, hcol, hlast, BitVec.extractLsb'_append_extractLsb'_eq_extractLsb' (by rfl),
    BitVec.extractLsb'_append_extractLsb'_eq_extractLsb' (by rfl)]
  simp

/-- An address is put together again from its box and its group: the rewiring loses no bit. -/
theorem saddrOf_fields (a : BitVec 9) : saddrOf (saddrBox a) (saddrGroup a) = a := by
  have hrowHigh : (saddrGroup a).extractLsb' 5 1 = a.extractLsb' 5 1 := by
    unfold saddrGroup
    rw [BitVec.extractLsb'_append_eq_of_le (by omega), BitVec.extractLsb'_append_eq_of_le (by omega)]
    simp
  have hrowLow : (saddrGroup a).extractLsb' 0 1 = a.extractLsb' 4 1 := by
    unfold saddrGroup
    rw [BitVec.extractLsb'_append_eq_of_add_le (by omega)]
    simp
  have hcol : (saddrGroup a).extractLsb' 1 4 = a.extractLsb' 0 4 := by
    unfold saddrGroup
    rw [BitVec.extractLsb'_append_eq_of_le (by omega), BitVec.extractLsb'_append_eq_of_add_le (by omega)]
    simp
  rw [saddrOf, saddrBox, hrowHigh, hrowLow, hcol, BitVec.extractLsb'_append_extractLsb'_eq_extractLsb' (by rfl),
    BitVec.extractLsb'_append_extractLsb'_eq_extractLsb' (by rfl),
    BitVec.extractLsb'_append_extractLsb'_eq_extractLsb' (by rfl)]
  simp

theorem saddrOf_eq_of_box {a : BitVec 9} {b : BitVec 3} (h : saddrBox a = b) : saddrOf b (saddrGroup a) = a := by
  rw [← h, saddrOf_fields]

/-- There are eight boxes. -/
theorem box_eq_seven {b : BitVec 3} (h0 : b ≠ 0) (h1 : b ≠ 1) (h2 : b ≠ 2) (h3 : b ≠ 3) (h4 : b ≠ 4) (h5 : b ≠ 5)
    (h6 : b ≠ 6) : b = 7 := by
  bv_omega

theorem encode_decodeSaddr (a : BitVec 9) : encode (decodeSaddr a) = .saddr a := by
  unfold decodeSaddr
  split_ifs with h0 h1 h2 h3 h4 h5 h6
  on_goal 8 => exact congrArg Transfer.saddr (saddrOf_eq_of_box (box_eq_seven h0 h1 h2 h3 h4 h5 h6))
  all_goals exact congrArg Transfer.saddr (saddrOf_eq_of_box ‹_›)

theorem wellFormed_decodeSaddr (a : BitVec 9) : (decodeSaddr a).WellFormed := by
  unfold decodeSaddr
  split_ifs <;> trivial

/-! ### Every transfer -/

theorem encode_fixedInstr (op : FixedOp) : encode (fixedInstr op) = .fixed op := by
  cases op <;> rfl

theorem wellFormed_fixedInstr {op : FixedOp} (h : (Transfer.fixed op).WellFormed) : (fixedInstr op).WellFormed := by
  cases op with
  | permute t x => exact h
  | _ => trivial

/-- Settles O2: by the kind of transfer; each decoder is undone by the encoder. -/
theorem encodeOfDecodeIsIdentity : Obligations.EncodeOfDecodeIsIdentity := by
  intro t ht
  cases t with
  | command w x => exact ⟨encode_decodeCommand w x, wellFormed_decodeCommand w x⟩
  | psel c x => exact ⟨encode_decodePsel ht, wellFormed_decodePsel c x⟩
  | saddr a => exact ⟨encode_decodeSaddr a, wellFormed_decodeSaddr a⟩
  | fixed op => exact ⟨encode_fixedInstr op, wellFormed_fixedInstr ht⟩

/-- The encoder spells a well-formed instruction within the widths of the units' inputs. -/
theorem wellFormed_encode {i : Instr} (hi : i.WellFormed) : (encode i).WellFormed := by
  cases i with
  | permIpL x | permIpR x | permFp x | permPc1C x | permPc1D x => exact x.isLt
  | permPc2 x | permE x | permP x => exact fitsIn_setWidth (by omega) x
  | permute t x => exact hi
  | _ => trivial

/-- The decoder reads a well-formed instruction back from its encoding. -/
theorem decode_encode {i : Instr} (hi : i.WellFormed) : decode (encode i) = i := by
  cases i with
  | decrypt len x | encrypt len x | setkey len x | illegalOp3 len x => simp [encode, decode, decodeCommand]
  | illegalRsvd rsvd len op x =>
    have hrsvd : rsvd ≠ 0#7 := hi
    simp [encode, decode, decodeCommand, hrsvd]
  | permPc2 x => exact congrArg Instr.permPc2 (BitVec.setWidth_setWidth_of_le x (by omega))
  | permE x => exact congrArg Instr.permE (by simp)
  | permP x => exact congrArg Instr.permP (by simp)
  | sboxS1 g | sboxS2 g | sboxS3 g | sboxS4 g | sboxS5 g | sboxS6 g | sboxS7 g | sboxS8 g =>
    simp [encode, decode, decodeSaddr]
  | _ => rfl

/-- Settles O1: by the instruction's fields, which the decoder reads where the encoder puts them. -/
theorem decodeOfEncodeIsIdentity : Obligations.DecodeOfEncodeIsIdentity :=
  fun _ hi => ⟨decode_encode hi, wellFormed_encode hi⟩

/-- Settles O4: each word is concrete, so the decoder computes its row for every operand. -/
theorem knownWordsDecode : Obligations.KnownWordsDecode := by
  intro x
  and_intros <;> rfl

end Sys2Proof

/-! ### What a failing command ignores (R76) -/

namespace Sys2Proof.Machine

/-- The checks of a command read no operand, and its error response carries none. -/
theorem Engine.run_of_failure {e : Engine} {len : Len} {x : Block} {s t : State} (h : e.run len x s = .next t)
    (herr : t.rspErr ≠ 0) (y : Block) : e.run len y s = .next t := by
  cases e with
  | schedule =>
    obtain ⟨_, he, h'⟩ | ⟨-, h'⟩ := execSetkey_cases len x s <;> cases h'.symm.trans h
    · exact execSetkey_error he
    · exact absurd rfl herr
  | feistel dir =>
    obtain ⟨_, he, h'⟩ | ⟨-, h'⟩ := execCrypt_cases dir len x s <;> cases h'.symm.trans h
    · exact execCrypt_error he
    · exact absurd rfl herr
  | noEngine => exact h

/-- Settles O39: the word alone chooses the engine, and an engine that fails has used no operand. -/
theorem operandIgnoredOnFailure : Obligations.OperandIgnoredOnFailure := by
  intro w x y s t h herr
  rw [exec_decodeCommand] at h ⊢
  exact Engine.run_of_failure h herr y

/-! ### The port's flags and a busy CORE (R70, R77, 45_commands.md R190) -/

theorem statusWord_toNat (s : State) :
    (statusWord s).toNat = s.keyValid.toNat + 2 * s.busy.toNat + 4 * s.cfgFault.toNat := by
  unfold statusWord
  rcases s.keyValid with _ | _ <;> rcases s.busy with _ | _ <;> rcases s.cfgFault with _ | _ <;> rfl

theorem cmdReady_iff (rst : Bool) (s : State) : cmdReady rst s = true ↔ s.busy = false ∧ rst = false := by
  simp [cmdReady]

/-- While `BUSY` is 1 a cycle without reset goes on with the command in progress, whatever the host drives. -/
theorem clock_busy {p : PortIn} {s : State} (hrst : p.rst = false) (hb : s.busy = true) (finish : Bool) :
    clock p finish s = s.quiet.continueCommand finish := by
  simp [clock, hrst, hb]

/-- Settles O59: the flags by their values, and a busy cycle by what it goes on with. -/
theorem statusAndHandshake : Obligations.StatusAndHandshake :=
  ⟨statusWord_toNat, fun s rst => cmdReady_iff rst s, fun _ finish _ _ _ hb =>
    (clock_busy rfl hb finish).trans (clock_busy rfl hb finish).symm⟩

end Sys2Proof.Machine

/-! The proofs of the family of 40_permutation.md: the rows of the permutation unit bit by bit, what two permutations do in a
row, what a table leaves out, and what a unit operation leaves alone. -/

namespace Sys2Proof.Machine

open Config (Tsel)

/-! ### The rows of the permutation unit (R100 to R109) -/

/-- Settles O8: each row presents its table's permutation of the block. -/
theorem blockPermutationRows : Obligations.BlockPermutationRows := fun _ x =>
  ⟨⟨ipL x, rfl, fun _ h1 hi => blockBit_permuteBlock .ipL x h1 hi (by omega)⟩,
    ⟨ipR x, rfl, fun _ h1 hi => blockBit_permuteBlock .ipR x h1 hi (by omega)⟩,
    ⟨fp x, rfl, fun _ h1 hi => blockBit_permuteBlock .fp x h1 hi (by omega)⟩⟩

/-- Settles O9: each row presents its table's permutation of the block. -/
theorem keyPermutationRows : Obligations.KeyPermutationRows := fun _ x z =>
  ⟨⟨pc1C x, rfl, fun _ h1 hi => blockBit_permuteBlock .pc1C x h1 hi (by omega)⟩,
    ⟨pc1D x, rfl, fun _ h1 hi => blockBit_permuteBlock .pc1D x h1 hi (by omega)⟩,
    ⟨pc2 z, rfl, fun _ h1 hi => blockBit_permuteBlock .pc2 z h1 hi (by omega)⟩⟩

/-- The expansion's table is the circle of R108: six neighbours a row, row `j` (from 0) starting at input bit `4j`, which is
bit 32 for row 0. -/
theorem tableE_getD {pos : Nat} (h : pos < 48) : tableE.getD pos 0 = (4 * (pos / 6) + pos % 6 + 31) % 32 + 1 := by
  revert pos
  decide

/-- What E does, bit by bit, by its circle (R108). -/
theorem blockBit_expand (x : Half) {i : Nat} (h1 : 1 ≤ i) (hi : i ≤ 48) :
    blockBit (expand x) i = blockBit x ((4 * ((i - 1) / 6) + (i - 1) % 6 + 31) % 32 + 1) := by
  rw [← tableE_getD (by omega)]
  exact blockBit_permuteBlock .e x h1 hi (by omega)

/-- Settles O10: E by its circle, P by its table. -/
theorem roundPermutationRows : Obligations.RoundPermutationRows := fun _ x =>
  ⟨⟨expand x, rfl, fun _ => blockBit_expand x⟩,
    ⟨pPerm x, rfl, fun _ h1 hi => blockBit_permuteBlock .p x h1 hi (by omega)⟩⟩

/-- The row that a select decodes to does what PERMUTE does at that select: either uses the input's low `n_in` bits. -/
theorem exec_decodePsel_tselCode (t : Tsel) (x : Block) (s : State) :
    exec (decodePsel (tselCode t) x) s = exec (.permute t x) s := by
  cases t <;> rfl

/-- Settles O11: both present PERMUTE's result. A block that does not fit does no harm, so its bound is not used. -/
theorem genericPermuteRow : Obligations.GenericPermuteRow := fun s t x _ =>
  ⟨permuteOut t x, rfl, exec_decodePsel_tselCode t x s⟩

/-! ### The initial permutation and FP (R110) -/

/-- The table of the whole initial permutation: the rows of its left half, then those of its right half (`IP` of R110). -/
def tableIp : List Nat := tableIpL ++ tableIpR

/-- What the whole initial permutation does, bit by bit. -/
theorem blockBit_ip (x : Block) {i : Nat} (h1 : 1 ≤ i) (hi : i ≤ 64) :
    blockBit (ipL x ++ ipR x) i = blockBit x (tableIp.getD (i - 1) 0) := by
  have hlen : tableIpL.length = 32 := rfl
  rw [blockBit_append _ _ h1, tableIp]
  split_ifs with h32
  · rw [List.getD_append _ _ _ _ (by omega)]
    exact blockBit_permuteBlock .ipL x h1 h32 (by omega)
  · rw [List.getD_append_right _ _ _ _ (by omega), hlen, Nat.sub_right_comm]
    exact blockBit_permuteBlock .ipR x (by omega) (by omega) (by omega)

/-- What FP does, bit by bit (R104). -/
theorem blockBit_fp (x : Block) {i : Nat} (h1 : 1 ≤ i) (hi : i ≤ 64) :
    blockBit (fp x) i = blockBit x (tableFp.getD (i - 1) 0) :=
  blockBit_permuteBlock .fp x h1 hi (by omega)

/-- The two tables list positions of a block, and each undoes the other. -/
theorem tableIp_tableFp_inverse {pos : Nat} (h : pos < 64) :
    (1 ≤ tableFp.getD pos 0 ∧ tableFp.getD pos 0 ≤ 64 ∧ tableIp.getD (tableFp.getD pos 0 - 1) 0 = pos + 1) ∧
    (1 ≤ tableIp.getD pos 0 ∧ tableIp.getD pos 0 ≤ 64 ∧ tableFp.getD (tableIp.getD pos 0 - 1) 0 = pos + 1) := by
  revert pos
  decide

theorem fp_ip (x : Block) : fp (ipL x ++ ipR x) = x := by
  apply block_ext
  intro i h1 hi
  obtain ⟨⟨hlow, hhigh, hinv⟩, -⟩ := tableIp_tableFp_inverse (pos := i - 1) (by omega)
  rw [blockBit_fp _ h1 hi, blockBit_ip _ hlow hhigh, hinv, Nat.sub_add_cancel h1]

theorem ip_fp (x : Block) : ipL (fp x) ++ ipR (fp x) = x := by
  apply block_ext
  intro i h1 hi
  obtain ⟨-, hlow, hhigh, hinv⟩ := tableIp_tableFp_inverse (pos := i - 1) (by omega)
  rw [blockBit_ip _ h1 hi, blockBit_fp _ hlow hhigh, hinv, Nat.sub_add_cancel h1]

/-- Settles O13: the tables of IP and FP undo each other at every position. -/
theorem initialPermutationInverse : Obligations.InitialPermutationInverse := fun x => ⟨fp_ip x, ip_fp x⟩

/-! ### The positions that a table uses (R112, R113) -/

/-- The block whose one set bit is bit `p` (00_scope.md R12). -/
theorem blockBit_twoPow {n p q : Nat} (hp1 : 1 ≤ p) (hp : p ≤ n) (hq1 : 1 ≤ q) (hq : q ≤ n) :
    blockBit (BitVec.twoPow n (n - p)) q = decide (q = p) := by
  have hsame : n - p = n - 1 - (q - 1) ↔ q = p := by omega
  simp [blockBit, BitVec.getMsbD_eq_getLsbD, BitVec.getLsbD_twoPow, hsame, show q - 1 < n by omega,
    show n - p < n by omega]

theorem nOut_le_64 (t : Tsel) : t.nOut ≤ 64 := by
  cases t <;> decide

/-- Each output bit is fed from an entry of the table. -/
theorem table_getD_mem (t : Tsel) {pos : Nat} (h : pos < t.nOut) : (tables.table t).getD pos 0 ∈ tables.table t := by
  obtain ⟨hlen, -⟩ := table_length_and_positions t
  rw [List.getD_eq_getElem _ _ (by omega)]
  exact List.getElem_mem _

/-- Flipping input bit `p` flips the output bits whose table entry is `p`, and no others. -/
theorem blockBit_permuteBlock_flip (t : Tsel) (x : BitVec t.nIn) {p i : Nat} (hp1 : 1 ≤ p) (hp : p ≤ t.nIn) (h1 : 1 ≤ i)
    (hi : i ≤ t.nOut) : blockBit (permuteBlock t t.nOut (x ^^^ BitVec.twoPow t.nIn (t.nIn - p))) i =
      (blockBit (permuteBlock t t.nOut x) i != decide ((tables.table t).getD (i - 1) 0 = p)) := by
  obtain ⟨-, hpos⟩ := table_length_and_positions t
  obtain ⟨hq1, hq⟩ := hpos _ (table_getD_mem t (by omega : i - 1 < t.nOut))
  rw [blockBit_permuteBlock _ _ h1 hi (nOut_le_64 t), blockBit_permuteBlock _ _ h1 hi (nOut_le_64 t), blockBit_xor,
    blockBit_twoPow hp1 hp hq1 hq]

/-- A permutation ignores an input bit exactly when its table does not list it. -/
theorem permuteBlock_flip_eq_iff (t : Tsel) (x : BitVec t.nIn) {p : Nat} (hp1 : 1 ≤ p) (hp : p ≤ t.nIn) :
    permuteBlock t t.nOut (x ^^^ BitVec.twoPow t.nIn (t.nIn - p)) = permuteBlock t t.nOut x ↔
      (tables.table t).count p = 0 := by
  obtain ⟨hlen, -⟩ := table_length_and_positions t
  rw [List.count_eq_zero]
  constructor
  · intro h hmem
    obtain ⟨pos, hpos, hentry⟩ := List.getElem_of_mem hmem
    have hflip := blockBit_permuteBlock_flip t x hp1 hp (by omega : 1 ≤ pos + 1) (by omega)
    rw [h, Nat.add_sub_cancel, List.getD_eq_getElem _ _ hpos, hentry] at hflip
    simp at hflip
  · intro hnot
    apply block_ext
    intro i h1 hi
    have hne : (tables.table t).getD (i - 1) 0 ≠ p := fun h => hnot (h ▸ table_getD_mem t (by omega))
    rw [blockBit_permuteBlock_flip t x hp1 hp h1 hi, decide_eq_false hne, Bool.bne_false]

/-- How often PC2's table lists each position of its input (R112). -/
theorem tablePc2_count : ∀ p < 57, 1 ≤ p →
    (tables.table .pc2).count p = if p ∈ [9, 18, 22, 25, 35, 38, 43, 54] then 0 else 1 := by
  decide

/-- How often E's table lists each position of its input (R113). -/
theorem tableE_count : ∀ p < 33, 1 ≤ p → (tables.table .e).count p =
    if p ∈ [1, 4, 5, 8, 9, 12, 13, 16, 17, 20, 21, 24, 25, 28, 29, 32] then 2 else 1 := by
  decide

/-- Settles O14: PC2 ignores a bit exactly when its table lists it nowhere. -/
theorem compressionAndExpansionPositions : Obligations.CompressionAndExpansionPositions := by
  refine ⟨fun x p h1 hp => ?_, fun p h1 hp => tableE_count p (by omega) h1⟩
  have hcount := tablePc2_count p (by omega) h1
  refine ⟨?_, hcount⟩
  calc pc2 (x ^^^ BitVec.twoPow 56 (56 - p)) = pc2 x
    _ ↔ (tables.table .pc2).count p = 0 := permuteBlock_flip_eq_iff .pc2 x h1 hp
    _ ↔ p ∈ [9, 18, 22, 25, 35, 38, 43, 54] := by
      simp only [hcount, ite_eq_left_iff, one_ne_zero, imp_false, not_not]

/-! ### What a unit operation leaves alone (R100, R140, R150, R170) -/

/-- A unit operation leaves the counters, the direction and the latches (log entry 9). -/
theorem exec_unit_keeps {i : Instr} {s t : State} (hi : i.isCommand = false) (h : exec i s = .next t) :
    t.ksN = s.ksN ∧ t.fcN = s.fcN ∧ t.fcDir = s.fcDir ∧ t.cmdLatch = s.cmdLatch ∧ t.dataLatch = s.dataLatch := by
  cases i with
  | decrypt | encrypt | setkey | illegalOp3 | illegalRsvd => cases hi
  | _ => cases h; exact ⟨rfl, rfl, rfl, rfl, rfl⟩

/-- Settles O43: a unit operation writes transients and the unit output alone, and of the transients neither a counter nor
the direction nor a latch. -/
theorem internalRowsInvisibleToHost : Obligations.InternalRowsInvisibleToHost := by
  intro i s t hi h
  obtain ⟨t', ht, hagree⟩ := exec_unit_agree s hi
  cases ht.symm.trans h
  exact ⟨hagree, hostView_of_agree hagree, exec_unit_keeps hi h⟩

end Sys2Proof.Machine

/-! The proofs of the family of 41_sbox.md: the address that a lookup reads, the word it gets, the eight lanes of a round, and
the rows of the boxes. -/

/-! ### Bits and concatenations as numbers (00_scope.md R11 to R13) -/

namespace Sys2Proof.Machine

theorem blockBit_toNat {n : Nat} (x : BitVec n) {i : Nat} (h1 : 1 ≤ i) (hi : i ≤ n) :
    (blockBit x i).toNat = x.toNat / 2 ^ (n - i) % 2 := by
  have hlsb : n - 1 - (i - 1) = n - i := by omega
  have hin : i - 1 < n := by omega
  simp [blockBit, BitVec.getMsbD, BitVec.getLsbD, hlsb, hin, Nat.toNat_testBit]

/-- In a concatenation the first block counts above the second's width. -/
theorem toNat_append_eq_add {n m : Nat} (x : BitVec n) (y : BitVec m) :
    (x ++ y).toNat = 2 ^ m * x.toNat + y.toNat := by
  rw [BitVec.toNat_append, ← Nat.shiftLeft_add_eq_or_of_lt y.isLt, Nat.shiftLeft_eq, Nat.mul_comm]

theorem blockSlice_eq_ofNat {n : Nat} (x : BitVec n) (i j : Nat) :
    blockSlice x i j = BitVec.ofNat (j - i + 1) (x.toNat / 2 ^ (n - j)) := by
  apply BitVec.eq_of_toNat_eq
  rw [blockSlice_toNat, BitVec.toNat_ofNat]

/-! ### The address of a lookup (R121) -/

theorem groupRow_toNat (g : Group) : (groupRow g).toNat = 2 * (g.toNat / 32) + g.toNat % 2 := by
  rw [groupRow, toNat_append_eq_add, blockSlice_toNat, blockSlice_toNat]
  omega

theorem groupCol_toNat (g : Group) : (groupCol g).toNat = g.toNat / 2 % 16 :=
  blockSlice_toNat g 2 5

/-- An SROM address as a number, by its fields (R81). -/
theorem boxRowCol_toNat (b : BitVec 3) (row : BitVec 2) (col : BitVec 4) :
    (b ++ row ++ col).toNat = 64 * b.toNat + 16 * row.toNat + col.toNat := by
  rw [toNat_append_eq_add, toNat_append_eq_add]
  omega

/-- The row's two bits stand side by side in the encoder's address too. -/
theorem saddrOf_eq_sromAddr (b : BitVec 3) (g : Group) : saddrOf b g = sromAddr b g :=
  congrArg (· ++ groupCol g) (BitVec.append_assoc ..)

/-- The low four bits of a number, each as a quotient. -/
theorem mod_sixteen_eq_bits (n : Nat) : n % 16 = 8 * (n / 8 % 2) + 4 * (n / 4 % 2) + 2 * (n / 2 % 2) + n % 2 := by
  omega

/-- The column's bits are the group's four middle bits. -/
theorem groupCol_eq_bits (g : Group) : (groupCol g).toNat = 8 * (blockBit g 2).toNat + 4 * (blockBit g 3).toNat +
    2 * (blockBit g 4).toNat + (blockBit g 5).toNat := by
  simp [groupCol_toNat, mod_sixteen_eq_bits, blockBit_toNat, Nat.div_div_eq_div_mul]

/-- The row's bits are the group's outer bits. -/
theorem groupRow_eq_bits (g : Group) :
    (groupRow g).toNat = 2 * (blockBit g 1).toNat + (blockBit g 6).toNat := by
  rw [groupRow_toNat, blockBit_toNat g (by omega) (by omega), blockBit_toNat g (by omega) (by omega)]
  omega

/-- Settles O16: the row and the column are the group's outer and middle bits. -/
theorem sromAddressIsRewiring : Obligations.SromAddressIsRewiring := fun b g =>
  ⟨by rw [sromAddr, boxRowCol_toNat, groupRow_eq_bits, groupCol_eq_bits], saddrOf_eq_sromAddr b g⟩

/-! ### The word of a lookup (R120, R122 to R129) -/

/-- An SROM word by the fields of its address (R53). -/
theorem srom_append_toNat (b : BitVec 3) (row : BitVec 2) (col : BitVec 4) :
    (srom (b ++ row ++ col)).toNat = ((tables.sboxes.getD b.toNat []).getD row.toNat []).getD col.toNat 0 := by
  rw [← srom_toNat b.isLt row.isLt col.isLt, ← boxRowCol_toNat, BitVec.ofNat_toNat, BitVec.setWidth_eq]

/-- The lookup on the group's value. -/
theorem sboxLookup_toNat (g : Group) (b : BitVec 3) : (sboxLookup g b).toNat =
    ((tables.sboxes.getD b.toNat []).getD (2 * (g.toNat / 32) + g.toNat % 2) []).getD (g.toNat / 2 % 16) 0 := by
  rw [sboxLookup, sromAddr, srom_append_toNat, groupRow_toNat, groupCol_toNat]

/-- Settles O15: every row presents its box's lookup. -/
theorem sboxRows : Obligations.SboxRows := by
  refine fun s g b => ⟨sboxLookup g b, sboxLookup_toNat g b, rfl, ?_, ?_, ?_, ?_, ?_, ?_, ?_, ?_⟩ <;>
    exact fun hb => hb ▸ rfl

/-! ### The eight lanes of a round (R130) -/

/-- Lane `b` of SUBST32 on the input's value. -/
def substLane (x : RoundKey) (b : Nat) : Nibble :=
  sboxLookup (BitVec.ofNat 6 (x.toNat / 2 ^ (42 - 6 * b))) (BitVec.ofNat 3 b)

/-- SUBST32 joins its lanes in box order. -/
theorem subst32_eq_lanes (x : RoundKey) : subst32 x =
    substLane x 0 ++ substLane x 1 ++ substLane x 2 ++ substLane x 3 ++ substLane x 4 ++ substLane x 5 ++
      substLane x 6 ++ substLane x 7 := by
  simp only [subst32, blockSlice_eq_ofNat]
  rfl

/-- Nibble `b` of SUBST32's result is lane `b`. -/
theorem subst32_nibble (x : RoundKey) {b : Nat} (hb : b < 8) :
    (subst32 x).toNat / 2 ^ (28 - 4 * b) % 16 = (substLane x b).toNat := by
  simp only [subst32_eq_lanes, toNat_append_eq_add]
  interval_cases b <;> omega

/-- Settles O17: by the lanes of the result. -/
theorem substitutionRow : Obligations.SubstitutionRow := fun _ x =>
  ⟨subst32 x, rfl, fun _ => subst32_nibble x⟩

/-! ### The rows of the boxes (R131) -/

/-- Each row of the tables lists the values 0 to 15, each once. -/
theorem sbox_row_perm : ∀ b < 8, ∀ r < 4, ((tables.sboxes.getD b []).getD r []).Perm (List.range 16) := by
  decide

/-- A row that lists each value once has no entry in two columns. -/
theorem srom_column_injective (b : BitVec 3) (row : BitVec 2) :
    Function.Injective fun col : BitVec 4 => srom (b ++ row ++ col) := by
  intro col col' h
  have hperm := sbox_row_perm b.toNat b.isLt row.toNat row.isLt
  have hnodup := hperm.nodup_iff.mpr List.nodup_range
  have hin (c : BitVec 4) : c.toNat < ((tables.sboxes.getD b.toNat []).getD row.toNat []).length :=
    c.isLt.trans_eq hperm.length_eq.symm
  have hentry := congrArg BitVec.toNat h
  rw [srom_append_toNat, srom_append_toNat, List.getD_eq_getElem _ _ (hin col), List.getD_eq_getElem _ _ (hin col'),
    hnodup.getElem_inj_iff] at hentry
  exact BitVec.eq_of_toNat_eq hentry

/-- Settles O18: a row repeats no value, and there are as many values as columns. -/
theorem sboxRowsArePermutations : Obligations.SboxRowsArePermutations := fun b row =>
  Finite.injective_iff_bijective.mp (srom_column_injective b row)

end Sys2Proof.Machine

/-! The proofs of the family of 42_round_function.md: the row ROUNDF, and what every unit on the way from a key and a block to
the result makes of their complements. -/

namespace Sys2Proof.Machine

open Config (Tsel Dir)

/-! ### The round function on complements (R140, R141) -/

/-- Every table lists positions of its input only, so the permutation unit commutes with the complement at each select. -/
theorem permuteBlock_nOut_not (t : Tsel) (x : BitVec t.nIn) :
    permuteBlock t t.nOut (~~~x) = ~~~permuteBlock t t.nOut x := by
  obtain ⟨-, hpos⟩ := table_length_and_positions t
  exact permuteBlock_not t x (nOut_le_64 t) fun _ hi => hpos _ (table_getD_mem t hi)

/-- The complements of the expanded half and of the round key cancel where they are mixed (R141). -/
theorem roundF_not (r : Half) (k : RoundKey) : roundF (~~~r) (~~~k) = roundF r k := by
  have hmix : expand (~~~r) ^^^ ~~~k = expand r ^^^ k := by
    calc expand (~~~r) ^^^ ~~~k
      _ = ~~~expand r ^^^ ~~~k := congrArg (· ^^^ ~~~k) (permuteBlock_nOut_not .e r)
      _ = expand r ^^^ k := by rw [← BitVec.not_xor_left, ← BitVec.not_xor_right, BitVec.not_not]
  rw [roundF, roundF, hmix]

/-- The corner of R140 with every input bit 0. -/
theorem roundF_zero_zero : roundF 0 0 = 0xD8D8DBBC := by
  decide +kernel

/-- The corner of R140 with the half's bits 1 and the key's 0. -/
theorem roundF_ones_zero : roundF 0xFFFFFFFF 0 = 0x38DBF9CB := by
  decide +kernel

/-- The known-answer example of R140. -/
theorem roundF_knownAnswer : roundF 0xF0AAF0AA 0x1B02EFFC7072 = 0x234AA9BB := by
  decide +kernel

/-- Settles O20: the complements cancel, and the check is the complement of R140's example. -/
theorem roundFunctionComplement : Obligations.RoundFunctionComplement :=
  ⟨roundF_not, (roundF_not 0xF0AAF0AA 0x1B02EFFC7072).trans roundF_knownAnswer⟩

/-- Settles O19: the row presents the six steps' result; of the corners, two are the complements of the other two. -/
theorem roundFunctionRow : Obligations.RoundFunctionRow :=
  ⟨fun _ _ _ => rfl, roundF_zero_zero, roundF_ones_zero, (roundF_not 0xFFFFFFFF 0).trans roundF_ones_zero,
    (roundF_not 0 0).trans roundF_zero_zero, roundF_knownAnswer⟩

/-! ### The key schedule on a complement (43_key_schedule.md R150) -/

/-- Both halves complement, round after round. -/
theorem ksHalves_not (x : Block) (n : Nat) : ksHalves (~~~x) n = (~~~(ksHalves x n).1, ~~~(ksHalves x n).2) := by
  induction n with
  | zero => exact congrArg₂ Prod.mk (permuteBlock_nOut_not .pc1C x) (permuteBlock_nOut_not .pc1D x)
  | succ n ih => simp only [ksHalves, ih, rotl28_not]

theorem roundKey_not (x : Block) (i : Fin 16) : roundKey (~~~x) i = ~~~roundKey x i := by
  simp only [roundKey, ksCompress, ksHalves_not, ← BitVec.not_append]
  exact permuteBlock_nOut_not .pc2 _

theorem keySchedule_getElem (x : Block) (i : Fin 16) : (keySchedule x)[i] = roundKey x i :=
  Vector.getElem_ofFn i.isLt

theorem keySchedule_not_getElem (x : Block) (i : Fin 16) : (keySchedule (~~~x))[i] = ~~~(keySchedule x)[i] := by
  rw [keySchedule_getElem, keySchedule_getElem, roundKey_not]

/-! ### The Feistel core on complements (44_feistel_core.md R170 to R174) -/

/-- The pair with every bit of both halves complemented. -/
def complementPair (p : Half × Half) : Half × Half := (~~~p.1, ~~~p.2)

theorem initialPair_not (x : Block) : initialPair (~~~x) = complementPair (initialPair x) :=
  congrArg₂ Prod.mk (permuteBlock_nOut_not .ipL x) (permuteBlock_nOut_not .ipR x)

/-- F is blind to the complements, so the complement of the left half is all that reaches the new right half. -/
theorem feistelStep_not (k : RoundKey) (p : Half × Half) :
    feistelStep (~~~k) (complementPair p) = complementPair (feistelStep k p) := by
  simp only [feistelStep, complementPair, roundF_not, BitVec.not_xor_left]

theorem outputBlock_complementPair (p : Half × Half) : outputBlock (complementPair p) = ~~~outputBlock p := by
  simp only [outputBlock, complementPair, ← BitVec.not_append]
  exact permuteBlock_nOut_not .fp _

/-- Two key files that hold complementary keys take complementary pairs to complementary pairs. -/
theorem feistelPair_not {rk rk' : Vector RoundKey 16} (hrk : ∀ i : Fin 16, rk'[i] = ~~~rk[i]) (dir : Dir)
    (steps : List (Fin 16)) (p : Half × Half) :
    feistelPair rk' dir steps (complementPair p) = complementPair (feistelPair rk dir steps p) := by
  refine List.foldl_hom complementPair fun q j => ?_
  have hkey : stepKey rk' dir j = ~~~stepKey rk dir j := hrk (rkIndex j dir)
  rw [hkey, feistelStep_not]

theorem feistel_not {rk rk' : Vector RoundKey 16} (hrk : ∀ i : Fin 16, rk'[i] = ~~~rk[i]) (dir : Dir) (x : Block) :
    feistel rk' dir (~~~x) = ~~~feistel rk dir x := by
  simp only [feistel, finalPair, initialPair_not, feistelPair_not hrk, outputBlock_complementPair]

/-- Settles O48: a complemented key complements the key file, and with it the transform complements. -/
theorem complementOfCipher : Obligations.ComplementOfCipher := fun key x dir =>
  feistel_not (keySchedule_not_getElem key) dir x

end Sys2Proof.Machine

/-! The proofs of the family of 43_key_schedule.md: the rows of the key schedule engine, its halves as rotations of the split
halves, what of a master key they depend on, and a SETKEY run one round a cycle. -/

namespace Sys2Proof.Machine

open Config (Tsel)

/-! ### The rows on the halves (R151 to R155) -/

/-- Settles O21: the split and the compression are the rows' own, and the rotation is by bits of the old halves. -/
theorem keyHalvesRows : Obligations.KeyHalvesRows := by
  refine ⟨fun _ _ => rfl, fun s i => ?_, fun _ => rfl⟩
  refine ⟨rotl28 s.c (shiftAmount i), rotl28 s.d (shiftAmount i), rfl, fun j h1 h28 => ⟨?_, ?_⟩⟩
  · exact blockBit_rotl28 s.c (shiftAmount i) h1 h28
  · exact blockBit_rotl28 s.d (shiftAmount i) h1 h28

/-- Settles O22: the round is ROT28's state with the compression of its halves on the output. -/
theorem keyRoundRow : Obligations.KeyRoundRow := fun s i => ⟨s.rotateHalves i, rfl, rfl⟩

/-! ### The halves as rotations of the split halves (R153, R159) -/

/-- The amount by which the halves have been rotated after `n` rounds. -/
def shiftSum (n : Nat) : Nat := ((List.range n).map shiftAmount).sum

theorem shiftSum_succ (n : Nat) : shiftSum (n + 1) = shiftSum n + shiftAmount n := by
  simp [shiftSum, List.range_succ]

theorem shiftSum_sixteen : shiftSum 16 = 28 := by
  decide

/-- A rotation by a whole turn moves no bit. -/
theorem rotl28_of_mod_eq_zero (h : KeyHalf) {a : Nat} (ha : a % 28 = 0) : rotl28 h a = h := by
  apply block_ext
  intro j h1 h28
  have hj : (j - 1 + a) % 28 + 1 = j := by omega
  rw [blockBit_rotl28 h a h1 h28, hj]

/-- The rotations of the rounds add up. -/
theorem ksHalves_eq_rotl28 (x : Block) (n : Nat) :
    ksHalves x n = (rotl28 (pc1C x) (shiftSum n), rotl28 (pc1D x) (shiftSum n)) := by
  induction n with
  | zero => rw [rotl28_of_mod_eq_zero _ rfl, rotl28_of_mod_eq_zero _ rfl, ksHalves]
  | succ n ih => simp only [ksHalves, ih, rotl28_rotl28, shiftSum_succ]

/-- Sixteen rounds are a whole turn. -/
theorem ksHalves_sixteen (x : Block) : ksHalves x 16 = ksHalves x 0 := by
  have hturn : shiftSum 16 % 28 = 0 := by rw [shiftSum_sixteen]
  rw [ksHalves_eq_rotl28, rotl28_of_mod_eq_zero _ hturn, rotl28_of_mod_eq_zero _ hturn, ksHalves]

/-- The split halves of the known-answer key (95_test_vectors.md L2.5). -/
theorem ksHalves_knownAnswer : ksHalves 0x133457799BBCDFF1 0 = (0xF0CCAAF, 0x556678F) := by
  decide +kernel

/-- Settles O23: the amounts make a whole turn. -/
theorem shiftsSumToTwentyEight : Obligations.ShiftsSumToTwentyEight :=
  ⟨shiftSum_sixteen, ksHalves_sixteen, (ksHalves_sixteen _).trans ksHalves_knownAnswer⟩

/-! ### KEYSCHED as rows run one after another (R150, R154) -/

/-- The registers `C` and `D` take a pair of halves. -/
def State.setHalves (s : State) (p : KeyHalf × KeyHalf) : State := { s with c := p.1, d := p.2 }

theorem exec_ksSplit (s : State) (x : Block) : exec (.ksSplit x) s = .next (s.setHalves (ksHalves x 0)) := rfl

/-- The round after `i` rounds leaves the halves after `i + 1` and shows `K_i`, whatever the unit showed before. -/
theorem exec_ksRound_setHalves (s : State) (x : Block) (v : UnitOut) (i : Fin 16) :
    exec (.ksRound i) ((s.setHalves (ksHalves x i)).present v) =
      .next ((s.setHalves (ksHalves x (i + 1))).present (.w48 (roundKey x i))) := rfl

/-- KS.SPLIT and the first `n` rounds, in ascending order. -/
def splitAndRounds (x : Block) (n : Nat) : List Instr := .ksSplit x :: ((List.finRange 16).take n).map .ksRound

theorem splitAndRounds_succ (x : Block) (i : Fin 16) :
    splitAndRounds x (i + 1) = splitAndRounds x i ++ [.ksRound i] := by
  have hlast : (List.finRange 16).take (i + 1) = (List.finRange 16).take i ++ [i] := by
    rw [List.take_succ_eq_append_getElem (by simp), List.getElem_finRange]
    rfl
  simp [splitAndRounds, hlast]

/-- The halves after the split and `n` rounds are those of the schedule, and nothing but the unit output differs beside. -/
theorem execAll_splitAndRounds (s : State) (x : Block) {n : Nat} (hn : n ≤ 16) :
    ∃ v, execAll (splitAndRounds x n) s = .next ((s.setHalves (ksHalves x n)).present v) := by
  induction n with
  | zero => exact ⟨s.out, rfl⟩
  | succ n ih =>
    obtain ⟨v, hv⟩ := ih (by omega)
    rw [splitAndRounds_succ x ⟨n, hn⟩, execAll_concat _ hv]
    exact ⟨_, exec_ksRound_setHalves s x v ⟨n, hn⟩⟩

/-- What the round `i` shows after the split and the rounds before it. -/
theorem execAll_splitAndRounds_succ (s : State) (x : Block) (i : Fin 16) :
    execAll (splitAndRounds x (i + 1)) s =
      .next ((s.setHalves (ksHalves x (i + 1))).present (.w48 (roundKey x i))) := by
  obtain ⟨v, hv⟩ := execAll_splitAndRounds s x i.isLt.le
  rw [splitAndRounds_succ, execAll_concat _ hv, exec_ksRound_setHalves]

/-- Settles O24: the rounds run one after another thread the halves as the schedule does. -/
theorem keyschedIsSplitAndSixteenRounds : Obligations.KeyschedIsSplitAndSixteenRounds := by
  intro s x
  refine ⟨_, rfl, rfl, fun i => ⟨_, execAll_splitAndRounds_succ s x i, ?_, fun hi => ?_⟩⟩
  · rw [keySchedule_getElem]
    rfl
  · obtain rfl : i = 15 := Fin.ext hi
    exact ⟨rfl, rfl⟩

/-! ### What of a master key the schedule depends on (R150, R156) -/

/-- A permutation depends on the bits that its table lists, and on no others. -/
theorem permuteBlock_congr (t : Tsel) {x y : BitVec t.nIn} (h : ∀ p ∈ tables.table t, blockBit x p = blockBit y p) :
    permuteBlock t t.nOut x = permuteBlock t t.nOut y := by
  apply block_ext
  intro i h1 hi
  rw [blockBit_permuteBlock _ _ h1 hi (nOut_le_64 t), blockBit_permuteBlock _ _ h1 hi (nOut_le_64 t),
    h _ (table_getD_mem t (by omega))]

/-- How often the two tables of the parity drop list each position of a key (40_permutation.md R111). -/
theorem tablePc1_count : ∀ p < 65, 1 ≤ p → (tables.table .pc1C ++ tables.table .pc1D).count p =
    if p ∈ [8, 16, 24, 32, 40, 48, 56, 64] then 0 else 1 := by
  decide

/-- The parity drop lists no parity bit. -/
theorem mod_eight_of_mem_tablePc1 : ∀ p ∈ tables.table .pc1C ++ tables.table .pc1D, p % 8 ≠ 0 := by
  decide

/-- Two keys that differ in their parity bits only. -/
def SameButParity (x y : Block) : Prop := ∀ i, 1 ≤ i → i ≤ 64 → i % 8 ≠ 0 → blockBit x i = blockBit y i

theorem pc1C_of_sameButParity {x y : Block} (h : SameButParity x y) : pc1C x = pc1C y := by
  obtain ⟨-, hpos⟩ := table_length_and_positions .pc1C
  exact permuteBlock_congr .pc1C fun p hp =>
    h p (hpos p hp).1 (hpos p hp).2 (mod_eight_of_mem_tablePc1 p (List.mem_append_left _ hp))

theorem pc1D_of_sameButParity {x y : Block} (h : SameButParity x y) : pc1D x = pc1D y := by
  obtain ⟨-, hpos⟩ := table_length_and_positions .pc1D
  exact permuteBlock_congr .pc1D fun p hp =>
    h p (hpos p hp).1 (hpos p hp).2 (mod_eight_of_mem_tablePc1 p (List.mem_append_right _ hp))

/-- The schedule sees a key through its split halves only. -/
theorem keySchedule_of_sameButParity {x y : Block} (h : SameButParity x y) : keySchedule x = keySchedule y := by
  have hround : roundKey x = roundKey y := by
    funext i
    simp only [roundKey, ksHalves_eq_rotl28, pc1C_of_sameButParity h, pc1D_of_sameButParity h]
  rw [keySchedule, keySchedule, hround]

/-- SETKEY sees a key through its schedule only, the transients apart (R191 of 45_commands.md). -/
theorem execSetkey_agree_of_keySchedule {x y : Block} (h : keySchedule x = keySchedule y) (len : Len) (s : State) :
    AnswerAlike (execSetkey len x s) (execSetkey len y s) := by
  cases he : firstError s false len false with
  | some e => exact ⟨_, _, execSetkey_error he, execSetkey_error he, agree_refl _⟩
  | none =>
    have hrun : (s.runSchedule x).AgreeButTransients (s.runSchedule y) := agree_refl s
    exact ⟨_, _, execSetkey_success he, execSetkey_success he, respond_agree (commitKeys_agree hrun h) .ok 0⟩

/-- Settles O25: the parity drop lists no parity bit, and no check of a SETKEY reads the key. -/
theorem parityBitsIgnored : Obligations.ParityBitsIgnored := by
  refine ⟨fun p h1 h64 => tablePc1_count p (by omega) h1, fun x y h => ?_, fun x s hcf =>
    ⟨_, exec_setkey_success hcf x, rfl⟩⟩
  have hsched := keySchedule_of_sameButParity h
  exact ⟨hsched, execSetkey_agree_of_keySchedule hsched⟩

/-- Settles O26: both halves complement, and the compression with them. -/
theorem keyScheduleComplement : Obligations.KeyScheduleComplement := keySchedule_not_getElem

end Sys2Proof.Machine

/-! ### A SETKEY run one round a cycle (R158) -/

namespace Sys2Proof.Machine

/-- A cycle without reset of a busy iterative machine goes on with the command in progress. -/
theorem iterClock_busy {q : PortIn} {s : State} (hrst : q.rst = false) (hb : s.busy = true) :
    iterClock q s = s.quiet.iterBusy := by
  simp [iterClock, hrst, hb]

theorem iterRun_cons (q : PortIn) (qs : List PortIn) (s : State) : iterRun (q :: qs) s = iterRun qs (iterClock q s) := rfl

theorem iterRun_concat (qs : List PortIn) (q : PortIn) (s : State) :
    iterRun (qs ++ [q]) s = iterClock q (iterRun qs s) := by
  simp [iterRun]

theorem engineOf_setkey : engineOf 0x0102 = .schedule := rfl

theorem iterBusy_schedule {s : State} (h : engineOf s.cmdLatch = .schedule) : s.iterBusy = s.iterSchedule := by
  simp [State.iterBusy, h]

/-- The state of a SETKEY of the key `x` in progress, `n` rounds done, with the shadow file `sh`. -/
def State.atRound (s : State) (x : Block) (n : Nat) (sh : Vector RoundKey 16) : State :=
  { (s.accept 0x0102 x).setHalves (ksHalves x n) with ksN := BitVec.ofNat 5 n, rkSh := sh }

/-- With all rounds done and the shadow file full, it is the state from which the atomic SETKEY commits. -/
theorem atRound_sixteen (s : State) (x : Block) :
    s.atRound x 16 (keySchedule x) = (s.accept 0x0102 x).runSchedule x := rfl

theorem atRound_ksN_toNat (s : State) (x : Block) {n : Nat} (hn : n ≤ 16) (sh : Vector RoundKey 16) :
    (s.atRound x n sh).ksN.toNat = n :=
  (BitVec.toNat_ofNat n 5).trans (Nat.mod_eq_of_lt (by omega))

/-- The cycle of acceptance starts the schedule. -/
theorem iterClock_accept_setkey {s : State} (hb : s.busy = false) (hcf : s.cfgFault = false) (x : Block) :
    iterClock ⟨false, true, 0x0102, x⟩ s = s.atRound x 0 s.rkSh := by
  have hnone : firstError (s.accept 0x0102 x) false (cmdLen 0x0102) false = none :=
    firstError_none.mpr ⟨hcf, rfl, Bool.noConfusion⟩
  simp only [iterClock, hb, Bool.false_eq_true, if_false, if_true, State.iterAccept, engineOf_setkey, hnone]
  rfl

/-- A cycle of it without reset is one of the schedule, whatever the host drives. -/
theorem iterClock_atRound {q : PortIn} (hrst : q.rst = false) (s : State) (x : Block) (n : Nat)
    (sh : Vector RoundKey 16) : iterClock q (s.atRound x n sh) = (s.atRound x n sh).iterSchedule :=
  (iterClock_busy hrst rfl).trans (iterBusy_schedule (s := s.atRound x n sh) engineOf_setkey)

/-- A round moves the halves on and stores its key in the shadow file. -/
theorem iterSchedule_round (s : State) (x : Block) (i : Fin 16) (sh : Vector RoundKey 16) :
    (s.atRound x i sh).iterSchedule = s.atRound x (i + 1) (sh.set i (roundKey x i)) := by
  have hksN := atRound_ksN_toNat s x i.isLt.le sh
  have hlt : (s.atRound x i sh).ksN.toNat < 16 := hksN.trans_lt i.isLt
  have hi : (⟨(s.atRound x i sh).ksN.toNat, hlt⟩ : Fin 16) = i := Fin.ext hksN
  rw [State.iterSchedule, dif_pos hlt, hi, State.atRound, State.atRound, BitVec.ofNat_add]
  rfl

/-- The cycle after the sixteenth round commits the schedule and responds. -/
theorem iterSchedule_finish (s : State) (x : Block) (sh : Vector RoundKey 16) :
    (s.atRound x 16 sh).iterSchedule = (s.atRound x 16 sh).finishSchedule := rfl

/-- The first `n` registers of a shadow file hold the schedule's keys. -/
def ShadowFilled (x : Block) (n : Nat) (sh : Vector RoundKey 16) : Prop :=
  ∀ i : Fin 16, i.val < n → sh[i] = roundKey x i

theorem shadowFilled_zero (x : Block) (sh : Vector RoundKey 16) : ShadowFilled x 0 sh :=
  fun i hi => absurd hi i.val.not_lt_zero

theorem shadowFilled_set {x : Block} {j : Fin 16} {sh : Vector RoundKey 16} (h : ShadowFilled x j sh) :
    ShadowFilled x (j + 1) (sh.set j (roundKey x j)) := by
  intro i hi
  by_cases hij : i = j
  · subst hij
    exact Vector.getElem_set_self i.isLt
  · have hne : j.val ≠ i.val := fun he => hij (Fin.ext he.symm)
    exact (Vector.getElem_set_ne j.isLt i.isLt hne).trans (h i (by omega))

theorem eq_keySchedule_of_shadowFilled {x : Block} {sh : Vector RoundKey 16} (h : ShadowFilled x 16 sh) :
    sh = keySchedule x := by
  apply Vector.ext
  intro i hi
  exact (h ⟨i, hi⟩ hi).trans (keySchedule_getElem x ⟨i, hi⟩).symm

/-- The cycles after acceptance run the rounds in order, one a cycle. -/
theorem iterRun_rounds (s : State) (x : Block) (sh : Vector RoundKey 16) (qs : List PortIn) (hlen : qs.length ≤ 16)
    (hrst : ∀ q ∈ qs, q.rst = false) :
    ∃ sh', ShadowFilled x qs.length sh' ∧ iterRun qs (s.atRound x 0 sh) = s.atRound x qs.length sh' := by
  induction qs using List.reverseRecOn with
  | nil => exact ⟨sh, shadowFilled_zero x sh, rfl⟩
  | append_singleton qs q ih =>
    rw [List.length_append, List.length_singleton] at hlen ⊢
    obtain ⟨hqs, hq⟩ := List.forall_mem_append.mp hrst
    obtain ⟨sh', hfilled, hrun⟩ := ih (by omega) hqs
    let i : Fin 16 := ⟨qs.length, hlen⟩
    refine ⟨sh'.set i (roundKey x i), shadowFilled_set (j := i) hfilled, ?_⟩
    rw [iterRun_concat, hrun, iterClock_atRound (hq q (List.mem_singleton_self q))]
    exact iterSchedule_round s x i sh'

/-- Sixteen rounds and the finish end in the state that the atomic SETKEY answers. -/
theorem iterRun_rounds_and_finish (s : State) (x : Block) (sh : Vector RoundKey 16) {qs : List PortIn}
    (hlen : qs.length = 17) (hrst : ∀ q ∈ qs, q.rst = false) :
    iterRun qs (s.atRound x 0 sh) = ((s.accept 0x0102 x).runSchedule x).commitKeys.respond .ok 0 := by
  obtain rfl | ⟨rounds, q, rfl⟩ := List.eq_nil_or_concat' qs
  · cases hlen
  have hrounds : rounds.length = 16 := by simpa using hlen
  obtain ⟨hrs, hq⟩ := List.forall_mem_append.mp hrst
  obtain ⟨sh', hfilled, hrun⟩ := iterRun_rounds s x sh rounds hrounds.le hrs
  rw [hrounds] at hfilled hrun
  obtain rfl := eq_keySchedule_of_shadowFilled hfilled
  rw [iterRun_concat, hrun, iterClock_atRound (hq q (List.mem_singleton_self q)), iterSchedule_finish,
    atRound_sixteen, State.finishSchedule]

/-- Settles O54: acceptance starts the schedule, each cycle is a round of it, and the last one commits the full shadow file,
in the very state that the atomic meaning answers. -/
theorem iterativeSetkeyIsAtomic : Obligations.IterativeSetkeyIsAtomic := by
  rintro s x p ps hb hcf rfl hlen hrst
  have hstart := iterClock_accept_setkey hb hcf x
  refine ⟨fun k hk => ?_, _, exec_setkey_success (s := s.accept 0x0102 x) hcf x, rfl, rfl, (ksHalves x 16).1,
    (ksHalves x 16).2, 16, keySchedule x, ?_⟩
  · obtain ⟨sh, -, hrun⟩ := iterRun_rounds s x s.rkSh (ps.take k) (by simp [hk])
      fun q hq => hrst q (List.mem_of_mem_take hq)
    rw [List.length_take_of_le (by omega)] at hrun
    rw [List.take_succ_cons, iterRun_cons, hstart, hrun]
    exact ⟨rfl, atRound_ksN_toNat s x hk sh⟩
  · rw [iterRun_cons, hstart]
    exact iterRun_rounds_and_finish s x s.rkSh hlen hrst

end Sys2Proof.Machine

/-! The proofs of the family of 44_feistel_core.md: the rows of the Feistel core, a step and the whole transform undone,
what that makes of the commands, and an ENCRYPT or DECRYPT run one step a cycle. -/

namespace Sys2Proof.Machine

open Config (Dir)

/-! ### The rows (R170 to R175) -/

/-- Settles O27: a row reads the file at the selector's index, which counts up to encrypt and down to decrypt. -/
theorem roundKeySelectorRow : Obligations.RoundKeySelectorRow := by
  refine ⟨fun _ _ => ⟨rfl, rfl⟩, fun dir => ?_⟩
  cases dir with
  | encrypt => exact Function.bijective_id
  | decrypt => exact Fin.rev_bijective

/-- Settles O28: the row is a step on the two registers, and mixing the same word in again gives the left half back. -/
theorem feistelRoundRow : Obligations.FeistelRoundRow := by
  intro s j
  refine ⟨s.roundStep j, rfl, rfl, ?_⟩
  simp [State.roundStep, feistelStep]

theorem feistelPair_cons (rk : Vector RoundKey 16) (dir : Dir) (j : Fin 16) (steps : List (Fin 16)) (p : Half × Half) :
    feistelPair rk dir (j :: steps) p = feistelPair rk dir steps (feistelStep (stepKey rk dir j) p) := rfl

theorem feistelPair_concat (rk : Vector RoundKey 16) (dir : Dir) (steps : List (Fin 16)) (j : Fin 16)
    (p : Half × Half) :
    feistelPair rk dir (steps ++ [j]) p = feistelStep (stepKey rk dir j) (feistelPair rk dir steps p) := by
  simp [feistelPair]

/-- Rows FEISTEL.ROUND, run one after another, thread the pair in `L` and `R` and change nothing else (R171, R175). -/
theorem execAll_feistelRound (steps : List (Fin 16)) (s : State) :
    execAll (steps.map .feistelRound) s = .next (s.setPair (feistelPair s.rk s.fcDir steps (s.l, s.r))) := by
  induction steps generalizing s with
  | nil => rfl
  | cons j steps ih => exact ih (s.roundStep j)

/-- Settles O29: the rows run from the split pair thread it as the transform does. -/
theorem feistelIsSixteenRounds : Obligations.FeistelIsSixteenRounds := by
  intro s dir x
  exact ⟨_, execAll_feistelRound _ _, rfl, rfl, rfl⟩

/-! ### A step undone, and with it the output block (R171, R174, R179) -/

/-- A step on the exchanged pair gives the old pair back, exchanged. -/
theorem feistelStep_swap_feistelStep (k : RoundKey) (p : Half × Half) :
    feistelStep k (feistelStep k p).swap = p.swap := feistelStep_undo k p

theorem feistelStep_injective (k : RoundKey) : Function.Injective (feistelStep k) := by
  intro p q h
  apply Prod.swap_injective
  rw [← feistelStep_swap_feistelStep k p, h, feistelStep_swap_feistelStep]

/-- Steps one after another lose nothing of the pair. -/
theorem feistelPair_injective (rk : Vector RoundKey 16) (dir : Dir) (steps : List (Fin 16)) :
    Function.Injective (feistelPair rk dir steps) := by
  induction steps with
  | nil => exact Function.injective_id
  | cons j steps ih => exact ih.comp (feistelStep_injective (stepKey rk dir j))

/-- FP undoes the initial permutation, so the output block of the exchanged initial pair is the block (R110, R174). -/
theorem outputBlock_swap_initialPair (x : Block) : outputBlock (initialPair x).swap = x := fp_ip x

theorem eq_and_eq_of_append_eq {l r l' r' : Half} (h : l ++ r = l' ++ r') : l = l' ∧ r = r' := by
  have hl := congrArg (BitVec.extractLsb' 32 32) h
  have hr := congrArg (BitVec.extractLsb' 0 32) h
  rw [BitVec.extractLsb'_append_eq_left, BitVec.extractLsb'_append_eq_left] at hl
  rw [BitVec.extractLsb'_append_eq_right, BitVec.extractLsb'_append_eq_right] at hr
  exact ⟨hl, hr⟩

/-- The initial permutation undoes FP; the pair comes back exchanged, for the output reverses the halves. -/
theorem initialPair_outputBlock (p : Half × Half) : initialPair (outputBlock p) = p.swap := by
  obtain ⟨hl, hr⟩ := eq_and_eq_of_append_eq (ip_fp (p.2 ++ p.1))
  exact Prod.ext hl hr

theorem outputBlock_injective : Function.Injective outputBlock := by
  intro p q h
  apply Prod.swap_injective
  rw [← initialPair_outputBlock p, h, initialPair_outputBlock]

/-- Settles O31: neither a step nor the output loses anything of the pair. -/
theorem sequentialDependency : Obligations.SequentialDependency := by
  intro k dir n p q hpq
  exact (outputBlock_injective.comp (feistelPair_injective k dir _)).ne hpq

/-! ### The transform undone (R177) -/

/-- The other direction. -/
def oppositeDir : Dir → Dir
  | .encrypt => .decrypt
  | .decrypt => .encrypt

/-- The other direction reads the key file from its other end (R172). -/
theorem stepKey_oppositeDir (rk : Vector RoundKey 16) (dir : Dir) (j : Fin 16) :
    stepKey rk (oppositeDir dir) j = stepKey rk dir j.rev := by
  cases dir with
  | encrypt => rfl
  | decrypt => exact congrArg (rk[·]) (Fin.rev_rev j).symm

/-- The mirrored steps in the other direction, on the exchanged pair, undo the steps, last step first. -/
theorem feistelPair_oppositeDir (rk : Vector RoundKey 16) (dir : Dir) (steps : List (Fin 16)) (p : Half × Half) :
    feistelPair rk (oppositeDir dir) (steps.map Fin.rev).reverse (feistelPair rk dir steps p).swap = p.swap := by
  induction steps generalizing p with
  | nil => rfl
  | cons j steps ih =>
    rw [List.map_cons, List.reverse_cons, feistelPair_concat, feistelPair_cons, ih, stepKey_oppositeDir, Fin.rev_rev,
      feistelStep_swap_feistelStep]

/-- All sixteen steps, mirrored, are the sixteen steps. -/
theorem reverse_map_rev_finRange : ((List.finRange 16).map Fin.rev).reverse = List.finRange 16 := by
  rw [← List.finRange_reverse, List.reverse_reverse]

/-- With the same key file the transform in the other direction undoes the transform. -/
theorem feistel_oppositeDir_feistel (rk : Vector RoundKey 16) (dir : Dir) (x : Block) :
    feistel rk (oppositeDir dir) (feistel rk dir x) = x := by
  have hundo := feistelPair_oppositeDir rk dir (List.finRange 16) (initialPair x)
  rw [reverse_map_rev_finRange] at hundo
  calc feistel rk (oppositeDir dir) (feistel rk dir x)
    _ = outputBlock (feistelPair rk (oppositeDir dir) (List.finRange 16) (finalPair rk dir x).swap) :=
      congrArg (fun p => outputBlock (feistelPair rk (oppositeDir dir) (List.finRange 16) p))
        (initialPair_outputBlock (finalPair rk dir x))
    _ = outputBlock (initialPair x).swap := congrArg outputBlock hundo
    _ = x := outputBlock_swap_initialPair x

/-! ### The transform through the commands (R177, R178) -/

/-- SETKEY of length 64 loads its key, in any state without a configuration fault (R191 of 45_commands.md). -/
theorem exec_setkey_holdsKey {s : State} (hcf : s.cfgFault = false) (key : Block) :
    ∃ t, exec (.setkey 64 key) s = .next t ∧ t.HoldsKey key :=
  ⟨_, exec_setkey_success hcf key, ⟨hcf, rfl, rfl, rfl⟩⟩

/-- ENCRYPT or DECRYPT of length 64 responds with the block under the held key and keeps it held (R192, R193 of
45_commands.md). -/
theorem execCrypt_holdsKey {s : State} {key : Block} (hs : s.HoldsKey key) (dir : Dir) (x : Block) :
    ∃ t, execCrypt dir 64 x s = .next t ∧ t.HoldsKey key ∧ t.rspErr = 0 ∧
      t.rspData = feistel (keySchedule key) dir x := by
  have hnone : firstError s false 64 true = none := firstError_none.mpr ⟨hs.cfgFault, rfl, fun _ => hs.keyValid⟩
  have hdata : feistel s.rk dir x = feistel (keySchedule key) dir x := congrArg (feistel · dir x) hs.rk
  exact ⟨_, execCrypt_success hnone, ⟨hs.cfgFault, rfl, hs.keyValid, hs.rk⟩, rfl, hdata⟩

/-- A SETKEY, then a command of one direction, then one of the other on its response, give the operand back. -/
theorem roundTrip_through_commands {s : State} (hcf : s.cfgFault = false) (dir : Dir) (key x : Block) :
    ∃ t u v : State, exec (.setkey 64 key) s = .next t ∧ execCrypt dir 64 x t = .next u ∧ u.rspErr = 0 ∧
      execCrypt (oppositeDir dir) 64 u.rspData u = .next v ∧ v.rspErr = 0 ∧ v.rspData = x := by
  obtain ⟨t, hset, ht⟩ := exec_setkey_holdsKey hcf key
  obtain ⟨u, hthere, hu, herr, hdata⟩ := execCrypt_holdsKey ht dir x
  obtain ⟨v, hback, -, herr', hdata'⟩ := execCrypt_holdsKey hu (oppositeDir dir) u.rspData
  refine ⟨t, u, v, hset, hthere, herr, hback, herr', ?_⟩
  rw [hdata', hdata, feistel_oppositeDir_feistel]

/-- Settles O46: the two directions undo each other with any key file, and a loaded key stays over the commands. -/
theorem roundTripThroughCommands : Obligations.RoundTripThroughCommands :=
  ⟨fun k x => ⟨feistel_oppositeDir_feistel k .encrypt x, feistel_oppositeDir_feistel k .decrypt x⟩,
    fun _ key x hcf => roundTrip_through_commands hcf .encrypt key x,
    fun _ key x hcf => roundTrip_through_commands hcf .decrypt key x⟩

/-- The known-answer vector of R178. -/
theorem feistel_knownAnswer :
    feistel (keySchedule 0x133457799BBCDFF1) .encrypt 0x0123456789ABCDEF = 0x85E813540F0AB405 := by
  decide +kernel

/-- Settles O47: the vector is evaluated to encrypt; to decrypt it is undone. -/
theorem knownAnswer : Obligations.KnownAnswer := by
  intro s hcf
  have hback := feistel_oppositeDir_feistel (keySchedule 0x133457799BBCDFF1) .encrypt 0x0123456789ABCDEF
  rw [feistel_knownAnswer] at hback
  obtain ⟨t, hset, ht⟩ := exec_setkey_holdsKey hcf 0x133457799BBCDFF1
  obtain ⟨u, henc, -, herr, hdata⟩ := execCrypt_holdsKey ht .encrypt 0x0123456789ABCDEF
  obtain ⟨v, hdec, -, herr', hdata'⟩ := execCrypt_holdsKey ht .decrypt 0x85E813540F0AB405
  exact ⟨t, u, v, hset, henc, herr, hdata.trans feistel_knownAnswer, hdec, herr', hdata'.trans hback⟩

/-! ### A schedule that reads the same in both orders (R172, R177) -/

/-- The transform depends on the key file and the direction through the keys of the steps alone. -/
theorem feistel_congr {rk rk' : Vector RoundKey 16} {dir dir' : Dir}
    (h : ∀ j, stepKey rk dir j = stepKey rk' dir' j) (x : Block) : feistel rk dir x = feistel rk' dir' x := by
  have hkeys : stepKey rk dir = stepKey rk' dir' := funext h
  simp only [feistel, finalPair, feistelPair, hkeys]

theorem rotl28_zero (n : Nat) : rotl28 0 n = 0 := by
  apply block_ext
  intro i h1 h28
  rw [blockBit_rotl28 _ _ h1 h28]
  simp [blockBit]

/-- The parity drop leaves no set bit of the key `0x0101010101010101`, and no rotation brings one back. -/
theorem roundKey_parityBitsOnly (i : Fin 16) : roundKey 0x0101010101010101 i = ksCompress 0 0 := by
  have hc : pc1C 0x0101010101010101 = 0 := by decide
  have hd : pc1D 0x0101010101010101 = 0 := by decide
  simp only [roundKey, ksHalves_eq_rotl28, hc, hd, rotl28_zero]

/-- Settles O49: with such a file the two directions are one transform; all round keys of the weak key are equal. -/
theorem selfReverseScheduleIsInvolution : Obligations.SelfReverseScheduleIsInvolution := by
  refine ⟨fun k x hk => ?_, fun j => ?_⟩
  · have hsame : ∀ y, feistel k .decrypt y = feistel k .encrypt y := feistel_congr fun j => (hk j).symm
    refine ⟨?_, hsame x⟩
    rw [← hsame]
    exact feistel_oppositeDir_feistel k .encrypt x
  · rw [keySchedule_getElem, keySchedule_getElem, roundKey_parityBitsOnly, roundKey_parityBitsOnly]

end Sys2Proof.Machine

/-! ### An ENCRYPT or DECRYPT run one step a cycle (R176) -/

namespace Sys2Proof.Machine

open Config (Dir)

theorem iterBusy_feistel {s : State} {dir : Dir} (h : engineOf s.cmdLatch = .feistel dir) :
    s.iterBusy = s.iterFeistel := by
  simp [State.iterBusy, h]

/-- The pair of a block after the first `n` steps. -/
def pairAfter (rk : Vector RoundKey 16) (dir : Dir) (x : Block) (n : Nat) : Half × Half :=
  feistelPair rk dir ((List.finRange 16).take n) (initialPair x)

theorem pairAfter_succ (rk : Vector RoundKey 16) (dir : Dir) (x : Block) (j : Fin 16) :
    pairAfter rk dir x (j + 1) = feistelStep (stepKey rk dir j) (pairAfter rk dir x j) := by
  have hlast : (List.finRange 16).take (j + 1) = (List.finRange 16).take j ++ [j] := by
    rw [List.take_succ_eq_append_getElem (by simp), List.getElem_finRange]
    rfl
  rw [pairAfter, hlast, feistelPair_concat, pairAfter]

/-- The state of the command `w` in progress on the block `x`, `n` steps in the direction `dir` done. -/
def State.atStep (s : State) (w : CmdWord) (dir : Dir) (x : Block) (n : Nat) : State :=
  { (s.accept w x).setPair (pairAfter s.rk dir x n) with fcN := BitVec.ofNat 5 n, fcDir := dir }

/-- With all steps done it is the state from which the atomic command responds. -/
theorem atStep_sixteen (s : State) (w : CmdWord) (dir : Dir) (x : Block) :
    s.atStep w dir x 16 = (s.accept w x).runFeistel dir x := rfl

theorem atStep_fcN_toNat (s : State) (w : CmdWord) (dir : Dir) (x : Block) {n : Nat} (hn : n ≤ 16) :
    (s.atStep w dir x n).fcN.toNat = n :=
  (BitVec.toNat_ofNat n 5).trans (Nat.mod_eq_of_lt (by omega))

/-- A step moves the pair on with its key, and the counter with it. -/
theorem iterFeistel_step (s : State) (w : CmdWord) (dir : Dir) (x : Block) (j : Fin 16) :
    (s.atStep w dir x j).iterFeistel = s.atStep w dir x (j + 1) := by
  have hfcN := atStep_fcN_toNat s w dir x j.isLt.le
  have hlt : (s.atStep w dir x j).fcN.toNat < 16 := hfcN.trans_lt j.isLt
  have hj : (⟨(s.atStep w dir x j).fcN.toNat, hlt⟩ : Fin 16) = j := Fin.ext hfcN
  rw [State.iterFeistel, dif_pos hlt, hj, State.atStep, State.atStep, pairAfter_succ, BitVec.ofNat_add]
  rfl

/-- The cycle after the sixteenth step responds with the output block. -/
theorem iterFeistel_finish (s : State) (w : CmdWord) (dir : Dir) (x : Block) :
    (s.atStep w dir x 16).iterFeistel =
      ((s.accept w x).runFeistel dir x).respond .ok (feistel s.rk dir x) := rfl

section

variable {s : State} {w : CmdWord} {dir : Dir} (x : Block) (hw : engineOf w = .feistel dir)

include hw

/-- The cycle of acceptance starts the Feistel core. -/
theorem iterClock_accept_crypt (hlen : cmdLen w = 64) (hb : s.busy = false) (hcf : s.cfgFault = false)
    (hkv : s.keyValid = true) : iterClock ⟨false, true, w, x⟩ s = s.atStep w dir x 0 := by
  have hnone : firstError (s.accept w x) false (cmdLen w) true = none :=
    firstError_none.mpr ⟨hcf, hlen, fun _ => hkv⟩
  simp only [iterClock, hb, Bool.false_eq_true, if_false, if_true, State.iterAccept, hw, hnone]
  rfl

/-- A cycle of it without reset is one of the Feistel core, whatever the host drives. -/
theorem iterClock_atStep {q : PortIn} (hrst : q.rst = false) (n : Nat) :
    iterClock q (s.atStep w dir x n) = (s.atStep w dir x n).iterFeistel :=
  (iterClock_busy hrst rfl).trans (iterBusy_feistel (s := s.atStep w dir x n) hw)

/-- The cycles after acceptance run the steps in order, one a cycle. -/
theorem iterRun_steps (qs : List PortIn) (hlen : qs.length ≤ 16) (hrst : ∀ q ∈ qs, q.rst = false) :
    iterRun qs (s.atStep w dir x 0) = s.atStep w dir x qs.length := by
  induction qs using List.reverseRecOn with
  | nil => rfl
  | append_singleton qs q ih =>
    rw [List.length_append, List.length_singleton] at hlen ⊢
    obtain ⟨hqs, hq⟩ := List.forall_mem_append.mp hrst
    rw [iterRun_concat, ih (by omega) hqs, iterClock_atStep x hw (hq q (List.mem_singleton_self q))]
    exact iterFeistel_step s w dir x ⟨qs.length, hlen⟩

/-- Sixteen steps and the finish end in the state that the atomic command answers. -/
theorem iterRun_steps_and_finish {qs : List PortIn} (hlen : qs.length = 17) (hrst : ∀ q ∈ qs, q.rst = false) :
    iterRun qs (s.atStep w dir x 0) = ((s.accept w x).runFeistel dir x).respond .ok (feistel s.rk dir x) := by
  obtain rfl | ⟨steps, q, rfl⟩ := List.eq_nil_or_concat' qs
  · cases hlen
  have hsteps : steps.length = 16 := by simpa using hlen
  obtain ⟨hss, hq⟩ := List.forall_mem_append.mp hrst
  rw [iterRun_concat, iterRun_steps x hw steps hsteps.le hss, hsteps,
    iterClock_atStep x hw (hq q (List.mem_singleton_self q)), iterFeistel_finish]

/-- The atomic meaning of the command just accepted. -/
theorem exec_decodeCommand_crypt (hlen : cmdLen w = 64) (hcf : s.cfgFault = false) (hkv : s.keyValid = true) :
    exec (decodeCommand w x) (s.accept w x) =
      .next (((s.accept w x).runFeistel dir x).respond .ok (feistel s.rk dir x)) := by
  have hnone : firstError (s.accept w x) false 64 true = none := firstError_none.mpr ⟨hcf, rfl, fun _ => hkv⟩
  rw [exec_decodeCommand, hw, hlen]
  exact execCrypt_success hnone

end

/-- Settles O55: acceptance starts the Feistel core, each cycle is a step of it, and the last one responds, in the very
state that the atomic meaning answers. -/
theorem iterativeCryptIsAtomic : Obligations.IterativeCryptIsAtomic := by
  rintro s x dir w p ps hcf hkv hb hword rfl hlen hrst
  have hw : engineOf w = .feistel dir := by cases dir <;> exact hword ▸ rfl
  have h64 : cmdLen w = 64 := by cases dir <;> exact hword ▸ rfl
  have hstart := iterClock_accept_crypt x hw h64 hb hcf hkv
  refine ⟨fun k hk => ?_, _, exec_decodeCommand_crypt x hw h64 hcf hkv, rfl, rfl, (finalPair s.rk dir x).1,
    (finalPair s.rk dir x).2, 16, dir, ?_⟩
  · have hrun := iterRun_steps (s := s) x hw (ps.take k) (by simp [hk]) fun q hq => hrst q (List.mem_of_mem_take hq)
    rw [List.length_take_of_le (by omega)] at hrun
    rw [List.take_succ_cons, iterRun_cons, hstart, hrun]
    exact ⟨rfl, atStep_fcN_toNat s w dir x hk⟩
  · rw [iterRun_cons, hstart]
    exact iterRun_steps_and_finish x hw hlen hrst

end Sys2Proof.Machine

/-! The proofs of the family of 45_commands.md: what a step runs, what each engine of a command answers on every path, and the
rows and the whole command step that follow. -/

namespace Sys2Proof.Machine

open Config (Dir)

/-! ### What a step runs (R190, R195) -/

theorem step_busy {s : State} (hb : s.busy = true) (h : ∀ rest, s.drive ≠ .reset :: rest) :
    step s = exec s.inProgress s.quiet := by
  simp [step, fetch_busy hb h]

theorem withFetchWord_eq_placeTransfer {nbits w : Nat} {t : Transfer} (h : tableTransfer nbits w = some t) (s : State) :
    s.withFetchWord nbits w = s.placeTransfer t := by
  simp [State.withFetchWord, State.placeTableWord, h]

/-- What is placed is taken by the next step, with CORE ready for it. -/
theorem step_placeTransfer (s : State) (t : Transfer) :
    step (s.placeTransfer t) = exec (decode t) (({ s with busy := false } : State).take t) :=
  step_present (s := s.placeTransfer t) rfl rfl

/-- Settles O5: a presented transfer is taken and executed, and a placed table word is presented. -/
theorem stepRunsPresentedTransfer : Obligations.StepRunsPresentedTransfer := by
  refine ⟨fun s t rest hb hd => ?_, fun s nbits w t h => ⟨?_, ?_⟩⟩
  · rw [step_present hb hd]
    cases t <;> rfl
  · simp [decodeTableWord, h]
  · rw [withFetchWord_eq_placeTransfer h, step_placeTransfer]
    cases t <;> rfl

/-- Settles O6: with no reset next, the command in the latches is what a busy CORE fetches. -/
theorem stepCompletesCommandInProgress : Obligations.StepCompletesCommandInProgress :=
  fun _ hb h => step_busy hb h

/-- Settles O30: a unit operation has one answer, and each path of a command ends with a response. -/
theorem everyInstructionCompletes : Obligations.EveryInstructionCompletes := exec_next

/-! ### The first error of a command, by its cause (60_exceptions.md R215) -/

theorem firstError_of_cfgFault {s : State} (hcf : s.cfgFault = true) (il : Bool) (len : Len) (k : Bool) :
    firstError s il len k = some .invalidTableIndex := by
  simp [firstError, hcf]

theorem firstError_of_length {s : State} {len : Len} (hcf : s.cfgFault = false) (hlen : len ≠ 64) (k : Bool) :
    firstError s false len k = some .invalidLength := by
  simpa [firstError, hcf] using hlen

theorem firstError_of_noKey {s : State} (hcf : s.cfgFault = false) (hkv : s.keyValid = false) :
    firstError s false 64 true = some .keyNotSet := by
  simp [firstError, hcf, hkv]

/-- Only `OK` has the code 0 (R210). -/
theorem errCode_ne_zero {e : Err} (he : e ≠ .ok) : errCode e ≠ 0 := by
  cases e with
  | ok => exact absurd rfl he
  | _ => decide

/-! ### What each engine answers, on every path (R191 to R194) -/

/-- SETKEY fails on the configuration, then on the length, and else loads the schedule (R191). -/
theorem execSetkey_eq (len : Len) (x : Block) (s : State) :
    execSetkey len x s = .next (
      if s.cfgFault = true then s.failed 3
      else if len ≠ 64 then s.failed 1
      else (s.runSchedule x).commitKeys.respond .ok 0) := by
  split_ifs with hcf hlen
  · exact execSetkey_error (firstError_of_cfgFault hcf false len false)
  · exact execSetkey_error (firstError_of_length (eq_false_of_ne_true hcf) hlen false)
  · exact execSetkey_success (firstError_none.mpr ⟨eq_false_of_ne_true hcf, not_not.mp hlen, Bool.noConfusion⟩)

/-- ENCRYPT and DECRYPT fail on the configuration, then on the length, then on the key, and else respond with the block (R192,
R193). -/
theorem execCrypt_eq (dir : Dir) (len : Len) (x : Block) (s : State) :
    execCrypt dir len x s = .next (
      if s.cfgFault = true then s.failed 3
      else if len ≠ 64 then s.failed 1
      else if s.keyValid = false then s.failed 2
      else (s.runFeistel dir x).respond .ok (feistel s.rk dir x)) := by
  split_ifs with hcf hlen hkv
  · exact execCrypt_error (firstError_of_cfgFault hcf false len true)
  · exact execCrypt_error (firstError_of_length (eq_false_of_ne_true hcf) hlen true)
  · exact execCrypt_error (not_not.mp hlen ▸ firstError_of_noKey (eq_false_of_ne_true hcf) hkv)
  · exact execCrypt_success (firstError_none.mpr
      ⟨eq_false_of_ne_true hcf, not_not.mp hlen, fun _ => eq_true_of_ne_false hkv⟩)

/-- An illegal word fails on the configuration, and else as illegal (R194). -/
theorem execIllegal_eq_failed (s : State) :
    execIllegal s = .next (s.failed (if s.cfgFault = true then 3 else 4)) := by
  rw [execIllegal_eq]
  split_ifs <;> rfl

/-! ### The word that chooses the engine (30_encoding.md R71, R75) -/

theorem cmdLen_eq_iff (w : CmdWord) (len : Len) : cmdLen w = len ↔ w.toNat / 4 % 128 = len.toNat := by
  rw [cmdLen_eq_ofNat]
  bv_omega

/-- The engine of a command word, with the fields of R71 as numbers and in the order in which R195 tests them. -/
theorem engineOf_eq_byNumbers (w : CmdWord) :
    engineOf w =
      if w.toNat / 512 ≠ 0 ∨ w.toNat % 4 = 3 then .noEngine
      else if w.toNat % 4 = 2 then .schedule
      else if w.toNat % 4 = 1 then .feistel .encrypt
      else .feistel .decrypt := by
  have hop : w.toNat % 4 < 4 := Nat.mod_lt _ (by decide)
  simp only [engineOf, ne_eq, cmdRsvd_eq_zero_iff, cmdOp_eq_iff]
  by_cases hrsvd : w.toNat / 512 = 0
  · generalize w.toNat % 4 = op at hop ⊢
    interval_cases op <;> simp [hrsvd]
  · simp [hrsvd]

/-! ### The rows (R191 to R194) -/

/-- What a SETKEY that succeeds has written: the keys and their flag, the response, and the engine's own registers (R191). -/
theorem setkey_success_eq (s : State) (x : Block) :
    (s.runSchedule x).commitKeys.respond .ok 0 =
      { s with rk := keySchedule x, keyValid := true, rspErr := 0, rspData := 0, rspValid := true, busy := false,
               c := (ksHalves x 16).1, d := (ksHalves x 16).2, ksN := 16, rkSh := keySchedule x } := by
  simp only [State.respond, State.commitKeys, State.runSchedule, State.schedule, errCode]

/-- Settles O32: a commit of the schedule and a response write what the row lists. -/
theorem setkeyRow : Obligations.SetkeyRow := by
  intro s len x
  refine ⟨_, execSetkey_eq len x s, ?_⟩
  rw [setkey_success_eq]
  split_ifs <;> rfl

/-- The row of ENCRYPT and DECRYPT, which differ in the direction alone. -/
theorem execCrypt_row (dir : Dir) (s : State) (len : Len) (x : Block) :
    ∃ t : State, execCrypt dir len x s = .next t ∧
      t = if s.cfgFault = true then s.failed 3
        else if len ≠ 64 then s.failed 1
        else if s.keyValid = false then s.failed 2
        else { s with rspErr := 0, rspData := feistel s.rk dir x, rspValid := true, busy := false,
                      l := t.l, r := t.r, fcN := t.fcN, fcDir := t.fcDir } := by
  refine ⟨_, execCrypt_eq dir len x s, ?_⟩
  split_ifs <;> rfl

/-- Settles O33: the shared row, to encrypt. -/
theorem encryptRow : Obligations.EncryptRow := execCrypt_row .encrypt

/-- Settles O34: the shared row, to decrypt. -/
theorem decryptRow : Obligations.DecryptRow := execCrypt_row .decrypt

/-- Settles O35: both rows and every illegal word use no engine. -/
theorem illegalRows : Obligations.IllegalRows := by
  refine fun s => ⟨fun _ _ => execIllegal_eq_failed s, fun _ _ _ _ => execIllegal_eq_failed s, fun w x hw => ?_⟩
  rw [exec_decodeCommand, engineOf_eq_byNumbers, if_pos hw.symm]
  exact execIllegal_eq_failed s

/-! ### Failures (R196, R197) -/

/-- Settles O37: an error's response writes nothing else, and the other two answers of a command are `OK`. -/
theorem failuresChangeOnlyTheResponse : Obligations.FailuresChangeOnlyTheResponse := by
  intro i s t hi h
  obtain ⟨e, he, h'⟩ | ⟨x, -, -, h'⟩ | ⟨dir, x, -, -, h'⟩ := exec_command_cases s hi <;> cases h'.symm.trans h
  · exact .inr ⟨errCode_ne_zero he, rfl⟩
  · exact .inl rfl
  · exact .inl rfl

/-- Settles O38: the configuration is the first check of every command. -/
theorem configurationFaultFailsEveryCommand : Obligations.ConfigurationFaultFailsEveryCommand := by
  refine ⟨fun i s hi hcf => ?_, reset_cfgFault⟩
  have crypt : ∀ dir len x, execCrypt dir len x s = .next (s.failed 3) := fun _ len _ =>
    execCrypt_error (firstError_of_cfgFault hcf false len true)
  have illegal : execIllegal s = .next (s.failed 3) := by rw [execIllegal_eq_failed, if_pos hcf]
  cases i with
  | decrypt len x => exact crypt .decrypt len x
  | encrypt len x => exact crypt .encrypt len x
  | setkey len x => exact execSetkey_error (firstError_of_cfgFault hcf false len false)
  | illegalOp3 _ _ => exact illegal
  | illegalRsvd _ _ _ _ => exact illegal
  | _ => cases hi

/-! ### The whole command step (R195) -/

/-- Settles O36: the word chooses the engine, and each engine answers in the order of R215. -/
theorem wholeCommandStep : Obligations.WholeCommandStep := by
  intro s w x
  have hlen : cmdLen w ≠ 64 ↔ w.toNat / 4 % 128 ≠ 64 := not_congr (cmdLen_eq_iff w 64)
  rw [exec_decodeCommand, engineOf_eq_byNumbers]
  simp only [← hlen]
  by_cases hill : w.toNat / 512 ≠ 0 ∨ w.toNat % 4 = 3
  · simp only [if_pos hill]
    refine ⟨_, execIllegal_eq_failed s, ?_⟩
    split_ifs <;> rfl
  simp only [if_neg hill]
  by_cases hset : w.toNat % 4 = 2
  · simp only [if_pos hset]
    refine ⟨_, execSetkey_eq _ x s, ?_⟩
    split_ifs <;> rfl
  simp only [if_neg hset]
  by_cases henc : w.toNat % 4 = 1
  · simp only [if_pos henc]
    refine ⟨_, execCrypt_eq .encrypt _ x s, ?_⟩
    split_ifs <;> rfl
  · simp only [if_neg henc]
    refine ⟨_, execCrypt_eq .decrypt _ x s, ?_⟩
    split_ifs <;> rfl

end Sys2Proof.Machine

/-! The proofs of the family of 70_reset_and_hazards.md: what reset gives, that every step completes, and that the number of
cycles that a command takes does not matter. -/

namespace Sys2Proof.Machine

/-! ### Reset (R230) -/

theorem clock_reset {p : PortIn} (hrst : p.rst = true) (finish : Bool) (s : State) :
    clock p finish s = .next s.afterReset := by
  simp [clock, hrst]

theorem iterClock_reset {p : PortIn} (hrst : p.rst = true) (s : State) : iterClock p s = s.afterReset := by
  simp [iterClock, hrst]

/-- Settles O7: by what the step fetches. -/
theorem stepTakesResetAndIdles : Obligations.StepTakesResetAndIdles :=
  ⟨fun _ _ hd => ⟨_, _, step_reset hd, rfl, agree_refl _⟩, fun _ hd hb => step_idle hb hd⟩

/-- Settles O58: a cycle with reset does nothing else, in either reading, and `rst` masks both handshake outputs. -/
theorem resetAbandonsCommand : Obligations.ResetAbandonsCommand := by
  intro s p finish hrst
  refine ⟨?_, ?_, ⟨_, _, clock_reset hrst finish s, rfl, agree_refl _⟩, ?_⟩
  · simp [portOut, cmdReady, hrst]
  · simp [portOut, hrst]
  · rw [iterClock_reset hrst]
    exact agree_refl s.afterReset

/-! ### Every step completes (R239) -/

theorem step_next (s : State) : ∃ t, step s = .next t := by
  obtain ⟨_, -, h⟩ | ⟨-, -, h⟩ | ⟨_, _, -, -, h⟩ | ⟨-, -, h⟩ := step_cases s <;> rw [h]
  · exact ⟨_, rfl⟩
  · exact exec_next _ _
  · exact exec_next _ _
  · exact ⟨_, rfl⟩

/-- A step leaves what the outside does next, or takes the first event of it. -/
theorem drive_of_step {s t : State} (h : step s = .next t) : t.drive = s.drive ∨ ∃ ev, s.drive = ev :: t.drive := by
  obtain ⟨rest, hd, h'⟩ | ⟨-, -, h'⟩ | ⟨u, rest, -, hd, h'⟩ | ⟨-, -, h'⟩ := step_cases s <;> rw [h'] at h
  · cases h
    exact .inr ⟨_, hd⟩
  · obtain ⟨hdrive, -⟩ := exec_port h
    exact .inl hdrive
  · obtain ⟨hdrive, -⟩ := exec_port h
    obtain ⟨-, -, -, -, -, htake, -⟩ := take_keeps { s with drive := rest } u
    have hrest : t.drive = rest := hdrive.trans htake
    exact .inr ⟨.present u, hrest ▸ hd⟩
  · cases h
    exact .inl rfl

/-- An outside that only uses the host's port goes on to do so. -/
theorem hostDriven_of_step {s t : State} (h : step s = .next t) (hs : s.HostDriven) : t.HostDriven := by
  obtain hd | ⟨ev, hd⟩ := drive_of_step h
  · exact (congrArg (List.all · Event.isHost) hd).trans hs
  · rw [State.HostDriven, hd, List.all_cons, Bool.and_eq_true] at hs
    exact hs.2

/-- A step that runs a command, in progress or presented, ends with its response. -/
theorem rspValid_of_step {s t : State} (h : step s = .next t)
    (hcmd : (s.busy = true ∧ ∀ rest : List Event, s.drive ≠ .reset :: rest) ∨
      (s.busy = false ∧ ∃ (w : CmdWord) (x : Block) (rest : List Event), s.drive = .present (.command w x) :: rest)) :
    t.rspValid = true := by
  have responds : ∀ w x u, exec (decodeCommand w x) u = .next t → t.rspValid = true := fun w x u hexec => by
    obtain ⟨-, -, hport, -⟩ := exec_port hexec
    exact (hport (isCommand_decodeCommand w x)).1
  obtain ⟨hb, hr⟩ | ⟨hb, w, x, rest, hd⟩ := hcmd
  · exact responds _ _ _ ((step_busy hb hr).symm.trans h)
  · exact responds _ _ _ ((step_present hb hd).symm.trans h)

/-- Settles O53: every instruction answers a next state, and a command ends with `BUSY` cleared and its response. -/
theorem hostCommandsAlwaysComplete : Obligations.HostCommandsAlwaysComplete := by
  intro s
  obtain ⟨t, h⟩ := step_next s
  exact ⟨t, h, busy_of_step h, hostDriven_of_step h, rspValid_of_step h⟩

/-! ### The latency of a command (R238) -/

/-- The cycle in which an idle CORE accepts what is presented. -/
theorem clock_accept {p : PortIn} {s : State} (hrst : p.rst = false) (hb : s.busy = false) (hvalid : p.cmdValid = true)
    (finish : Bool) : clock p finish s = (s.accept p.cmdWord p.cmdData).continueCommand finish := by
  simp [clock, hrst, hb, hvalid]

/-- A cycle of an accepted command goes on with it from the very state of acceptance: `rsp_valid` is already down. -/
theorem clock_accepted {q : PortIn} (hrst : q.rst = false) (s : State) (w : CmdWord) (x : Block) (finish : Bool) :
    clock q finish (s.accept w x) = (s.accept w x).continueCommand finish :=
  clock_busy hrst (accept_busy s w x) finish

/-- The last cycle of an accepted command is its atomic meaning: the latches hold what was accepted. -/
theorem continueCommand_accept_finish (s : State) (w : CmdWord) (x : Block) :
    (s.accept w x).continueCommand true = exec (decodeCommand w x) (s.accept w x) := rfl

theorem waitCycles_cons {p : PortIn} {s t : State} (ps : List PortIn) (h : clock p false s = .next t) :
    waitCycles (p :: ps) s = waitCycles ps t := by
  simp [waitCycles, h]

/-- Waiting leaves the state of acceptance as it is, whatever the host drives. -/
theorem waitCycles_accepted (s : State) (w : CmdWord) (x : Block) {ps : List PortIn} (hrst : ∀ i ∈ ps, i.rst = false) :
    waitCycles ps (s.accept w x) = .next (s.accept w x) := by
  induction ps with
  | nil => rfl
  | cons q qs ih =>
    obtain ⟨hq, hqs⟩ := List.forall_mem_cons.mp hrst
    exact (waitCycles_cons qs (clock_accepted hq s w x false)).trans (ih hqs)

/-- Settles O57: a waiting command stays at its acceptance, from where completion is its atomic meaning. -/
theorem latencyDoesNotMatter : Obligations.LatencyDoesNotMatter := by
  intro s p q ps hb hrst hvalid hps hq
  have hself := answerAlike_self (exec_next (decodeCommand p.cmdWord p.cmdData) (s.accept p.cmdWord p.cmdData))
  refine ⟨?_, s.accept p.cmdWord p.cmdData, ?_, accept_busy .., ?_⟩
  · rwa [clock_accept hrst hb hvalid, continueCommand_accept_finish]
  · exact (waitCycles_cons ps (clock_accept hrst hb hvalid false)).trans (waitCycles_accepted s _ _ hps)
  · rwa [clock_accepted hq, continueCommand_accept_finish]

end Sys2Proof.Machine
